-- ==== Sys2Proof/Word.lean ====
section
/-! DEFINITION. The word types of the MCS-40 (spec/00_scope.md R8, R9, R11): every value is an unsigned bit vector of
stated width. Bit 3 of a 4-bit value is the card's D3, bit 0 its D0. -/

namespace Sys2Proof

/-- One bit that the manual adds, concatenates or prefixes to an address (CY, RB, SB). -/
abbrev Bit := BitVec 1

/-- A character, half byte or port value; also a register number and a JCN condition (R10). -/
abbrev Nibble := BitVec 4

/-- An instruction word, a program memory word, a SRC address (R9, R65). -/
abbrev Byte := BitVec 8

/-- A program memory address, 0 to 4095 (R24). -/
abbrev Addr := BitVec 12

/-- The number of an index register pair, 0 to 7 (R10, R23). -/
abbrev PairNo := BitVec 3

/-- The number of a data RAM bank, 0 to 7 (R27, R64). -/
abbrev BankNo := BitVec 3

end Sys2Proof
end

