-- ==== Sys2Proof/Machine/Bits.lean ====
section
/-! DEFINITION. Bit-field helpers that the decoder and the machine share (spec/00_scope.md R8, R9, R11; spec/20_memory.md R62). -/

namespace Sys2Proof.Machine

/-- The upper half of a word: OPR, D2, A2, the even register (R9, R62). -/
def upper (b : Byte) : Nibble := b.extractLsb' 4 4

/-- The lower half of a word: OPA, D1, A1, the odd register (R9, R62). -/
def lower (b : Byte) : Nibble := b.extractLsb' 0 4

/-- `u ++ l` of R11. -/
def joinHalves (u l : Nibble) : Byte := u ++ l

/-- The page of an address: its upper four bits (R24). -/
def pageOf (a : Addr) : Nibble := a.extractLsb' 8 4

/-- An address from a page and eight low bits (R62 (c), R145). -/
def inPage (page : Nibble) (low : Byte) : Addr := page ++ low

/-- The entry of a table that a bit vector numbers. -/
def look {α : Type} {w : Nat} (v : Vector α (2 ^ w)) (i : BitVec w) : α := v[i.toNat]'i.isLt

/-- The table with that entry replaced. -/
def put {α : Type} {w : Nat} (v : Vector α (2 ^ w)) (i : BitVec w) (x : α) : Vector α (2 ^ w) := v.set i.toNat x i.isLt

end Sys2Proof.Machine
end

