-- ==== Sys2Proof/Machine/Flags.lean ====
section
/-! DEFINITION. Every computation of a result and of the carry that the instructions use (spec/40_basic_machine.md R149 and
spec/41_accumulator_group.md). Each answers the new accumulator and the new carry. The carry is the only flag. -/

namespace Sys2Proof.Machine

/-- `add4(x, y, c)` of R149: the exact sum, split into its low four bits and the carry out. -/
def add4 (x y : Nibble) (c : Bit) : Nibble × Bit :=
  let t := x.toNat + y.toNat + c.toNat
  (BitVec.ofNat 4 (t % 16), BitVec.ofNat 1 (t / 16))

/-- `x - y - b` of R149: `add4(x, ~y, 1 - b)`; the carry out is 1 for no borrow. -/
def sub4 (x y : Nibble) (b : Bit) : Nibble × Bit := add4 x (~~~y) (~~~b)

/-- IAC (R152). -/
def increment (acc : Nibble) : Nibble × Bit := add4 acc 1#4 0#1

/-- DAC (R158). -/
def decrement (acc : Nibble) : Nibble × Bit := add4 acc 0b1111#4 0#1

/-- RAL (R155): the 5-bit ring CY ++ ACC one place toward D3. -/
def rotateLeft (acc : Nibble) (cy : Bit) : Nibble × Bit := (acc.extractLsb' 0 3 ++ cy, acc.extractLsb' 3 1)

/-- RAR (R156): the ring one place toward D0. -/
def rotateRight (acc : Nibble) (cy : Bit) : Nibble × Bit := (cy ++ acc.extractLsb' 1 3, acc.extractLsb' 0 1)

/-- TCC (R157). -/
def transmitCarry (cy : Bit) : Nibble × Bit := (0b000#3 ++ cy, 0#1)

/-- TCS (R159). -/
def transferCarrySubtract (cy : Bit) : Nibble × Bit := (if cy = 0#1 then 9#4 else 10#4, 0#1)

/-- DAA (R161): it may set the carry and never clears it. -/
def decimalAdjust (acc : Nibble) (cy : Bit) : Nibble × Bit :=
  if 9 < acc.toNat ∨ cy = 1#1 then
    let r := add4 acc 6#4 0#1
    (r.1, if r.2 = 1#1 then 1#1 else cy)
  else (acc, cy)

/-- `kbp` of R162: one out of four to binary, 15 for every other code. -/
def keyboardProcess (acc : Nibble) : Nibble :=
  match acc.toNat with
  | 0b0000 => 0b0000#4
  | 0b0001 => 0b0001#4
  | 0b0010 => 0b0010#4
  | 0b0100 => 0b0011#4
  | 0b1000 => 0b0100#4
  | _ => 0b1111#4

end Sys2Proof.Machine
end

