-- ==== Sys2Proof/Config.lean ====
section
/-! DEFINITION. What a run is given and no instruction changes: the parameters of the machine (spec/00_scope.md R7), kept as
plain data in State.plat so that every statement about all states holds for every value of them, and the open values of the
manual, each a constant WITHOUT A BODY: nothing can be proved of its value. The types of the devices' modes stand here because
those constants speak of them. Log entries: notes/assumptions/1 to 3, 8 to 12, 17 to 22. -/

namespace Sys2Proof

/-- The two processors (R2, parameter CPU). -/
inductive Cpu where
  | c4004
  | c4040
  deriving DecidableEq, Repr

/-- What answers at a RAM-side chip address (R67, parameter slot). -/
inductive Device where
  | empty
  | ram4002
  | dev4269
  | dev4265
  deriving DecidableEq, Repr

/-- What may sit at chip address 1, the only one of a 4269 (R67, R228). -/
inductive ChipOne where
  | empty
  | ram4002
  | dev4269
  deriving DecidableEq, Repr

/-- What may sit at chip address 2 or 3, the two of a 4265 (R67, R255). -/
inductive ChipHigh where
  | empty
  | ram4002
  | dev4265
  deriving DecidableEq, Repr

/-- The four chip addresses of one data RAM bank. A 4002 may take any of them; the types keep a 4269 at 1 and a 4265 at 2
or 3, as R67 fixes. -/
structure BankMap where
  chip0Ram : Bool
  chip1 : ChipOne
  chip2 : ChipHigh
  chip3 : ChipHigh
  deriving DecidableEq, Repr

/-- The parameters of R7 that a run takes as plain data. IR_BANKED_COUNT is 8 (D7), INT_VECTOR is 0x003 (D14). -/
structure Platform where
  /-- CPU (R2). -/
  cpu : Cpu
  /-- STACK_DEPTH (R25). -/
  stackDepth : Nat
  /-- STACK_WRAP (R146, R147): false is the fault reading of D3, true the circular one. -/
  stackWrap : Bool
  /-- ROM_BANK_DELAY (R177). -/
  romBankDelay : Nat
  /-- INT_ENTRY_CLEARS_IE (R286). -/
  intEntryClearsIe : Bool
  /-- HALT_EXIT_WHEN_DISABLED (R288). -/
  haltExitWhenDisabled : Bool
  /-- slot(b, c) (R67); a bank beyond NUM_RAM_BANKS is one with every chip empty (R64). -/
  banks : Vector BankMap 8
  /-- The ROM ports (ROM bank, number) for which romPortPresent is false (R192). -/
  absentRomPorts : List (Bit × Nibble)
  /-- The pages (ROM bank, upper four address bits) of program memory that are read/write (R70, R79). Empty when the
  platform has no program RAM. -/
  progRamPages : List (Bit × Nibble)
  /-- Those of them that a 4289 controls: RPM reads these alone (R184); WPM writes them all (R196). -/
  pages4289 : List (Bit × Nibble)
  /-- The data RAM bank of the 4269 whose INT line is the interrupt input; none when no such wire exists (R284, D35). -/
  intWiring : Option BankNo
  /-- FIFO_DEPTH_4269 (R224). -/
  fifoDepth : Nat
  /-- enabled4265 at reset (R253): whether the ports of the 4265s are enabled before any WMP. -/
  enabled4265 : Bool
  deriving DecidableEq, Repr

/-- Output modes of a 4269, in the order of their codes 00 to 11 (R220). -/
inductive OutMode where
  | individual
  | gas20
  | gas18
  | gas16
  deriving DecidableEq, Repr

/-- Input modes of a 4269, in the order of their codes 00 to 11 (R220). -/
inductive InMode where
  | sensor
  | contact
  | encoded
  | notUsed
  deriving DecidableEq, Repr

/-- The two register sides of a 4269 (R221). -/
inductive Side where
  | a
  | b
  deriving DecidableEq, Repr, Inhabited

/-- A value of the display register pointer: a side and a number 0 to 15 (R222). -/
structure DisplayPtr where
  side : Side
  n : Nibble
  deriving DecidableEq, Repr, Inhabited

/-- Display length (R223 (c)). -/
inductive DisplayLength where
  | sixteen
  | eight
  deriving DecidableEq, Repr, Inhabited

/-- A FIFO position of a 4269: two nibbles (R224). -/
structure KeyEntry where
  first : Nibble
  second : Nibble
  deriving DecidableEq, Repr, Inhabited

/-- The four ports of a 4265 (R252). -/
inductive Port where
  | w
  | x
  | y
  | z
  deriving DecidableEq, Repr

/-- The direction of a 4265 port (R268). -/
inductive Direction where
  | output
  | input
  deriving DecidableEq, Repr, Inhabited

/-- A move of the environment on the 4269 of a bank, between two steps (R72, R74, R224, R225). -/
inductive DeviceMove where
  | fifo (bank : BankNo) (entries : List KeyEntry)
  | sensors (bank : BankNo) (group : BitVec 3) (value : Byte)
  | statusBuffer (bank : BankNo) (value : Nibble)
  | intLine (bank : BankNo) (level : Bool)
  deriving DecidableEq, Repr

/-- What the environment supplies in one step (R74): the Test level, the interrupt request level, the four bits on the input
port that the step reads (a step reads at most one), and the moves made on 4269s before the step. -/
structure Inputs where
  test : Bit
  int : Bool
  port : Nibble
  moves : List DeviceMove
  deriving DecidableEq, Repr, Inhabited

/-- The places of one step at which a free 4-bit value may be drawn: the halves of the first and second instruction word and
of the word that FIN reads, where they are program RAM that nothing has written (R80), and the value that an I/O instruction
receives. -/
inductive DrawSite where
  | fetch1Upper
  | fetch1Lower
  | fetch2Upper
  | fetch2Lower
  | finUpper
  | finLower
  | received
  deriving DecidableEq, Repr

/-- What the platform's program RAM addressing may look at (R79). -/
structure ProgRamView where
  romSel : Vector (Option Byte) 2
  sel : Vector (Option Byte) 8
  romPorts : List (Nat × Nibble)
  rb : Bit
  cr : BankNo

/-- The fields of a 4269 that the card leaves without a stated value after some instruction (R227, R230). -/
structure KdFree where
  regA : Vector Nibble 16
  regB : Vector Nibble 16
  fifo : List KeyEntry
  ptr : DisplayPtr
  blankA : Bool
  blankB : Bool
  displayBlanked : Bool
  deepA : DisplayLength
  deepB : DisplayLength
  sensGroup : BitVec 3
  statusBuffer : Nibble
  intLine : Bool
  deriving Inhabited

/-- draw(4) of R14, R80: the free value drawn at a site in the step that the clock numbers. -/
opaque Config.draw : Nat → DrawSite → Nibble

/-- The environment in the step that the clock numbers, where State.inputs does not give it (R74). -/
opaque Config.input : Nat → Inputs

/-- progRamAddr (R79, D27): the ROM bank and address of the word that WPM and RPM act on. -/
opaque Config.progRamAddr : ProgRamView → Bit × Addr

/-- dir4265 for the pairs of mode and port that the card's table does not settle (R268, D28). -/
opaque Config.dir4265 : Fin 14 → Port → Direction

/-- bitTarget4265 (R257, D28): a map of the eight numbers onto the eight bits of the ports Y (0 to 3) and Z (4 to 7), so a
permutation; which one is open. -/
opaque Config.bitTarget4265 : Equiv.Perm (BitVec 3)

/-- BLANK (R230, D29): the codes for a blank in an A register and in a B register. -/
opaque Config.blank : OutMode → Nibble × Nibble

/-- ptrWrap (R222, D29): what follows the last value of the pointer. -/
opaque Config.ptrWrap : OutMode → DisplayLength → DisplayPtr → DisplayPtr

/-- Whether the blanking SRC of a gas discharge mode overwrites the display registers (R223 (b)). -/
opaque Config.gasBlankOverwrites : Bool

/-- Free values of a 4269's fields in the step that the clock numbers (R227, R230). -/
opaque Config.kdFree : Nat → KdFree

/-- The entry point of an interrupt, INT_VECTOR (R286, D14). -/
def Config.intVector : Addr := 0x003#12

end Sys2Proof
end

