-- ==== Sys2Proof/Machine/State.lean ====
section
/-! DEFINITION. The state of the machine as plain data (spec/10_state.md; INVENTORY.md lists every field), why it can stop
(spec/60_exceptions.md R280), the state after reset (R46), and the named updates of its fields. -/

namespace Sys2Proof.Machine

/-- The devices of which unmodelledDeviceOp speaks (R280). -/
inductive DeviceKind where
  | dev4269
  | dev4265
  deriving DecidableEq, Repr

/-- The model faults of R280, a closed list; `a` is the address of the instruction that raised it. All are SAFE: the model stops
where the card gives no behaviour. -/
inductive Fault where
  /-- Raised by step: the first word `w` is 0F, FE or FF (R96). Safe. -/
  | illegalInstruction (a : Addr) (w : Byte)
  /-- Raised by the fourteen 4040-only instructions on a 4004 (R97, R185). Safe. -/
  | notExecutableOn4004 (a : Addr) (w : Byte)
  /-- Raised by JMS and by interrupt entry: the stack is full and STACK_WRAP is false (R146). `a` of an interrupt entry is the
  program counter (log 42). Safe. -/
  | stackOverflow (a : Addr)
  /-- Raised by BBL and BBS: the stack is empty and STACK_WRAP is false (R147). Safe. -/
  | stackUnderflow (a : Addr)
  /-- Raised by E0 to E2, E4 to EF and BBS: no SRC has set the latch they need (R171, R191, R192). Safe. -/
  | ioBeforeSrc (a : Addr)
  /-- Raised by step and FIN: the platform has no program memory at `addr` of ROM bank `rb` (R70, R133). Safe. -/
  | noProgramMemory (a : Addr) (rb : Bit) (addr : Addr)
  /-- Raised by the RAM-side instructions: the device's table has no row for the code in the mode in force, or no mode is set
  (R220, R226, R243, R253). Safe. -/
  | unmodelledDeviceOp (a : Addr) (device : DeviceKind) (code : Byte)
  deriving DecidableEq, Repr

/-- Why the model gives no meaning. -/
inductive Refusal where
  /-- Raised by an arm of exec whose instruction has no meaning yet. Safe. -/
  | notModelled (mnemonic : String)
  /-- Raised by SRC, BBS and the RAM-side instructions: a 4265 in mode 12 or 13 answers for its whole bank and the platform has
  put something else there too, which R256 excludes (treatment 'refuse'). Safe. -/
  | bankShared (a : Addr) (bank : BankNo)
  deriving DecidableEq, Repr

/-- The index registers: 0 to 7 once per IR bank, 8 to 15 once (R29). -/
structure RegFile where
  bank0 : Vector Nibble 8
  bank1 : Vector Nibble 8
  common : Vector Nibble 8
  deriving DecidableEq, Repr

/-- The return addresses. `levels` is STACK, the top last (R25); `ar` and `sp` are the address registers and their pointer
under STACK_WRAP (R146), where AR[SP] is the program counter, which State holds in `pc` alone. -/
structure Stack where
  levels : List Addr
  ar : List Addr
  sp : Nat
  deriving DecidableEq, Repr

/-- RB, RBNEXT and RBCOUNT (R28, R177). -/
structure RomBank where
  rb : Bit
  next : Bit
  count : Nat
  deriving DecidableEq, Repr

/-- HALFSEL (R199). -/
inductive Half where
  | first
  | second
  deriving DecidableEq, Repr

/-- The memories and ports (R36 to R41), each a list of cells with addresses strictly rising (Memory.wf); an address that is not
listed holds no value. The flat addresses are those of Machine/Ops.lean. -/
structure Memory where
  /-- True ROM, 8-bit words. -/
  rom : List Host.Cell
  /-- Read/write program memory, 4-bit halves. -/
  pram : List (Nat × Nibble)
  /-- Data RAM main memory characters. -/
  ramch : List (Nat × Nibble)
  /-- Data RAM status characters. -/
  ramst : List (Nat × Nibble)
  /-- RAM output ports. -/
  ramport : List (Nat × Nibble)
  /-- Output side of the ROM ports. -/
  romport : List (Nat × Nibble)
  deriving DecidableEq, Repr

/-- A 4269 (R42, R220 to R226). -/
structure Kd4269 where
  modes : Option (OutMode × InMode)
  regA : Vector Nibble 16
  regB : Vector Nibble 16
  ptr : DisplayPtr
  blankA : Bool
  blankB : Bool
  displayBlanked : Bool
  deepA : DisplayLength
  deepB : DisplayLength
  fifo : List KeyEntry
  statusBuffer : Nibble
  intLine : Bool
  sens : Vector Byte 8
  sensGroup : BitVec 3
  deriving DecidableEq, Repr

/-- A 4265 (R43, R250 to R253). -/
structure Io4265 where
  mode : Option (Fin 14)
  enabled : Bool
  outW : Nibble
  outX : Nibble
  outY : Nibble
  outZ : Nibble
  deriving DecidableEq, Repr

/-- The whole machine (R45 to R47; R281). -/
structure State where
  /-- The parameters of the run, which no step changes (R7, R45). -/
  plat : Platform
  /-- ACC (R20). -/
  acc : Nibble
  /-- CY (R21). -/
  cy : Bit
  /-- IRB and IRC (R22, R29). -/
  ir : RegFile
  /-- PC (R24). -/
  pc : Addr
  /-- STACK (R25). -/
  stack : Stack
  /-- CR (R27). -/
  cr : BankNo
  /-- RB, RBNEXT, RBCOUNT (R28). -/
  bank : RomBank
  /-- SB (R29). -/
  sb : Bit
  /-- IE (R30). -/
  ie : Bool
  /-- INSERVICE (R31). -/
  inService : Bool
  /-- HALTED (R32). -/
  halted : Bool
  /-- SRCREG (R33); none: no SRC outside service yet. -/
  srcReg : Option Byte
  /-- SEL[b] (R34); none: unset. -/
  sel : Vector (Option Byte) 8
  /-- ROMSEL[rb] (R35); none: unset. -/
  romSel : Vector (Option Byte) 2
  /-- HALFSEL (R41, R199). -/
  halfSel : Half
  /-- PROG, PRAM, RAMCH, RAMST, RAMPORT, ROMPORTOUT (R36 to R41). -/
  mem : Memory
  /-- The 4269 of each data RAM bank (R42). -/
  kd : Vector Kd4269 8
  /-- The 4265 of each data RAM bank at chip 2 and chip 3, numbered bank ++ chip bit (R43). -/
  io : Vector Io4265 16
  /-- The model's own: what the environment supplies in the coming steps, this one first (log 8). -/
  inputs : List Inputs
  /-- The model's own: the number of steps begun, to which free values are applied (log 9). -/
  clock : Nat
  deriving DecidableEq, Repr

/-- A 4269 nothing has reached: no modes (R226), the rest log 6. -/
def Kd4269.reset : Kd4269 where
  modes := none
  regA := Vector.replicate 16 0#4
  regB := Vector.replicate 16 0#4
  ptr := { side := .a, n := 0#4 }
  blankA := false
  blankB := false
  displayBlanked := false
  deepA := .sixteen
  deepB := .sixteen
  fifo := []
  statusBuffer := 0#4
  intLine := false
  sens := Vector.replicate 8 0#8
  sensGroup := 0#3

/-- A 4265 nothing has reached: no mode, its ports enabled or not as the parameter says (R7, R253), the latches log 7. -/
def Io4265.reset (enabled : Bool) : Io4265 where
  mode := none
  enabled := enabled
  outW := 0#4
  outX := 0#4
  outY := 0#4
  outZ := 0#4

/-- Nothing listed: no cell holds a value (R46). -/
def Memory.empty : Memory where
  rom := []
  pram := []
  ramch := []
  ramst := []
  ramport := []
  romport := []

/-- A bank with a 4002 at every chip address. -/
def BankMap.allRam : BankMap where
  chip0Ram := true
  chip1 := .ram4002
  chip2 := .ram4002
  chip3 := .ram4002

/-- The platform that State.reset names (log 1, 2, 3). -/
def Platform.reset : Platform where
  cpu := .c4040
  stackDepth := 7
  stackWrap := false
  romBankDelay := 2
  intEntryClearsIe := false
  haltExitWhenDisabled := false
  banks := Vector.replicate 8 BankMap.allRam
  absentRomPorts := []
  progRamPages := []
  pages4289 := []
  intWiring := none
  fifoDepth := 8
  enabled4265 := false

/-- The machine right after reset on a given platform (R46, R310; log 5 to 9 for the fields R46 gives no value). -/
def State.resetOn (p : Platform) : State where
  plat := p
  acc := 0#4
  cy := 0#1
  ir := { bank0 := Vector.replicate 8 0#4, bank1 := Vector.replicate 8 0#4, common := Vector.replicate 8 0#4 }
  pc := 0x000#12
  stack := { levels := [], ar := List.replicate (p.stackDepth + 1) 0#12, sp := 0 }
  cr := 0#3
  bank := { rb := 0#1, next := 0#1, count := 0 }
  sb := 0#1
  ie := false
  inService := false
  halted := false
  srcReg := none
  sel := Vector.replicate 8 none
  romSel := Vector.replicate 2 none
  halfSel := .first
  mem := Memory.empty
  kd := Vector.replicate 8 Kd4269.reset
  io := Vector.replicate 16 (Io4265.reset p.enabled4265)
  inputs := []
  clock := 0

/-- The machine right after reset (R46, R310), on the platform of log 1 to 3. -/
def State.reset : State := State.resetOn Platform.reset

/-! The named updates: one field each. Their lemmas are in Laws/State.lean. -/

def State.setAcc (s : State) (v : Nibble) : State := { s with acc := v }
def State.setCy (s : State) (v : Bit) : State := { s with cy := v }
def State.setIr (s : State) (v : RegFile) : State := { s with ir := v }
def State.setPc (s : State) (v : Addr) : State := { s with pc := v }
def State.setStack (s : State) (v : Stack) : State := { s with stack := v }
def State.setCr (s : State) (v : BankNo) : State := { s with cr := v }
def State.setBank (s : State) (v : RomBank) : State := { s with bank := v }
def State.setSb (s : State) (v : Bit) : State := { s with sb := v }
def State.setIe (s : State) (v : Bool) : State := { s with ie := v }
def State.setInService (s : State) (v : Bool) : State := { s with inService := v }
def State.setHalted (s : State) (v : Bool) : State := { s with halted := v }
def State.setSrcReg (s : State) (v : Option Byte) : State := { s with srcReg := v }
def State.setSel (s : State) (v : Vector (Option Byte) 8) : State := { s with sel := v }
def State.setRomSel (s : State) (v : Vector (Option Byte) 2) : State := { s with romSel := v }
def State.setHalfSel (s : State) (v : Half) : State := { s with halfSel := v }
def State.setMem (s : State) (v : Memory) : State := { s with mem := v }
def State.setKd (s : State) (v : Vector Kd4269 8) : State := { s with kd := v }
def State.setIo (s : State) (v : Vector Io4265 16) : State := { s with io := v }
def State.setInputs (s : State) (v : List Inputs) : State := { s with inputs := v }
def State.setClock (s : State) (v : Nat) : State := { s with clock := v }

end Sys2Proof.Machine
end

