-- ==== Sys2Proof/Machine/Kd4269.lean ====
section
/-! DEFINITION. The 4269 keyboard/display device as the I/O instructions see it: onSrc, onWrite and onRead of
spec/43_io_ram.md R210 (spec/44_4269_io.md R220 to R243). `none` says that the card's tables have no row for the code in the mode
in force, or that no WR0 has set the modes (R226, R243). `now` is the clock of the step, for free values. -/

namespace Sys2Proof.Machine

/-- The codes that write to a RAM-side device (R210). -/
inductive WriteOp where
  | wrm
  | wmp
  | wr0
  | wr1
  | wr2
  | wr3
  deriving DecidableEq, Repr

/-- The codes that read from a RAM-side device (R210). -/
inductive ReadOp where
  | sbm
  | rdm
  | adm
  | rd0
  | rd1
  | rd2
  | rd3
  deriving DecidableEq, Repr

/-- The word of a write code (R95). -/
def WriteOp.code : WriteOp → Byte
  | .wrm => 0xE0#8
  | .wmp => 0xE1#8
  | .wr0 => 0xE4#8
  | .wr1 => 0xE5#8
  | .wr2 => 0xE6#8
  | .wr3 => 0xE7#8

/-- The word of a read code (R95). -/
def ReadOp.code : ReadOp → Byte
  | .sbm => 0xE8#8
  | .rdm => 0xE9#8
  | .adm => 0xEB#8
  | .rd0 => 0xEC#8
  | .rd1 => 0xED#8
  | .rd2 => 0xEE#8
  | .rd3 => 0xEF#8

/-- The output mode of ACC[3:2] (R220). -/
def outModeOf (v : Nibble) : OutMode :=
  match (v.extractLsb' 2 2).toNat with
  | 0 => .individual
  | 1 => .gas20
  | 2 => .gas18
  | _ => .gas16

/-- The input mode of ACC[1:0] (R220). -/
def inModeOf (v : Nibble) : InMode :=
  match (v.extractLsb' 0 2).toNat with
  | 0 => .sensor
  | 1 => .contact
  | 2 => .encoded
  | _ => .notUsed

/-- REG[ptr] (R233): the display register that the pointer names. -/
def displayReg (k : Kd4269) : Nibble :=
  match k.ptr.side with
  | .a => look (w := 4) k.regA k.ptr.n
  | .b => look (w := 4) k.regB k.ptr.n

/-- `REG[ptr] <- v` (R233, R235). -/
def setDisplayReg (k : Kd4269) (v : Nibble) : Kd4269 :=
  match k.ptr.side with
  | .a => { k with regA := put (w := 4) k.regA k.ptr.n v }
  | .b => { k with regB := put (w := 4) k.regB k.ptr.n v }

/-- The length of the display of a side (R223 (c)). -/
def displayLength (k : Kd4269) : Side → DisplayLength
  | .a => k.deepA
  | .b => k.deepB

/-- The number of the last register of a display of that length (R222). -/
def lastNumber : DisplayLength → Nibble
  | .sixteen => 15#4
  | .eight => 7#4

/-- The next value of the pointer (R222): along one side in individual mode, along A0, B0, A1, B1, ... in a gas discharge mode;
after the last register the open parameter ptrWrap (log 18). -/
def nextPtr (o : OutMode) (k : Kd4269) : DisplayPtr :=
  match o with
  | .individual =>
    let len := displayLength k k.ptr.side
    if k.ptr.n = lastNumber len ∨ k.ptr.n = 15#4 then Config.ptrWrap o len k.ptr
    else { k.ptr with n := k.ptr.n + 1#4 }
  | .gas20 | .gas18 | .gas16 =>
    match k.ptr.side with
    | .a => { k.ptr with side := .b }
    | .b => if k.ptr.n = 15#4 then Config.ptrWrap o .sixteen k.ptr else { side := .a, n := k.ptr.n + 1#4 }

/-- `ptr <- increment(ptr)`. -/
def advancePtr (o : OutMode) (k : Kd4269) : Kd4269 := { k with ptr := nextPtr o k }

/-- A[i], B[i] <- BLANK for all i (R230 to R232; log 18). -/
def blankDisplay (o : OutMode) (k : Kd4269) : Kd4269 :=
  { k with regA := Vector.replicate 16 (Config.blank o).1, regB := Vector.replicate 16 (Config.blank o).2 }

/-- WR0 (R227). Display registers and FIFO must not be relied on across a mode change: free values then (log 20). -/
def kdSetModes (depth now : Nat) (v : Nibble) (k : Kd4269) : Kd4269 :=
  let m := (outModeOf v, inModeOf v)
  if k.modes = some m then k
  else
    let f := Config.kdFree now
    { k with modes := some m, regA := f.regA, regB := f.regB, fifo := f.fifo.take depth }

/-- WR1 (R231, R232). -/
def kdResetPointer (o : OutMode) (v : Nibble) (k : Kd4269) : Kd4269 :=
  match o with
  | .individual =>
    { blankDisplay o k with
      ptr := { k.ptr with n := 0#4 }
      deepB := if v.getLsbD 3 then .eight else .sixteen
      deepA := if v.getLsbD 2 then .eight else .sixteen }
  | .gas20 | .gas18 | .gas16 => { blankDisplay o k with ptr := { side := .a, n := 0#4 } }

/-- WR2 (R237 in a keyboard mode, R241 in sensor mode; none in the mode "Not Used", R220). -/
def kdClearFifo (i : InMode) (k : Kd4269) : Option Kd4269 :=
  match i with
  | .contact | .encoded => some { k with fifo := [], statusBuffer := 0#4, intLine := false }
  | .sensor => some { k with fifo := [], intLine := false }
  | .notUsed => none

/-- WR3 (R230). What it leaves in the pointer, the blanking flags, the lengths, the sensor group, the status buffer and the INT
line has no stated value: free values (log 21). -/
def kdClear (o : OutMode) (now : Nat) (k : Kd4269) : Kd4269 :=
  let f := Config.kdFree now
  { blankDisplay o k with
    fifo := []
    ptr := f.ptr
    blankA := f.blankA
    blankB := f.blankB
    displayBlanked := f.displayBlanked
    deepA := f.deepA
    deepB := f.deepB
    sensGroup := f.sensGroup
    statusBuffer := f.statusBuffer
    intLine := f.intLine }

/-- onWrite(code, v) (R210, R227 to R241). -/
def kdWrite (depth now : Nat) (op : WriteOp) (v : Nibble) (k : Kd4269) : Option Kd4269 :=
  match op with
  | .wr0 => some (kdSetModes depth now v k)
  | .wr1 => k.modes.map fun m => kdResetPointer m.1 v k
  | .wr2 => k.modes.bind fun m => kdClearFifo m.2 k
  | .wr3 => k.modes.map fun m => kdClear m.1 now k
  | .wrm => k.modes.map fun m => advancePtr m.1 (setDisplayReg k v)
  | .wmp => k.modes.map fun _ => setDisplayReg k v

/-- RD1 (R238, R242); `d` is the free value of an empty FIFO. -/
def kdReadFirst (i : InMode) (d : Nibble) (k : Kd4269) : Option (Nibble × Kd4269) :=
  match i with
  | .sensor => some (upper (look (w := 3) k.sens k.sensGroup), k)
  | .contact | .encoded =>
    match k.fifo with
    | [] => some (d, k)
    | e :: _ => some (e.first, k)
  | .notUsed => none

/-- RD2 (R239, R242): in a keyboard mode the entry read is consumed. -/
def kdReadSecond (i : InMode) (d : Nibble) (k : Kd4269) : Option (Nibble × Kd4269) :=
  match i with
  | .sensor => some (lower (look (w := 3) k.sens k.sensGroup), k)
  | .contact | .encoded =>
    match k.fifo with
    | [] => some (d, k)
    | e :: rest => some (e.second, { k with fifo := rest })
  | .notUsed => none

/-- RD0 (R240): the FIFO status, a free value (log 23). The card has no RD0 row for sensor mode (R243). -/
def kdReadStatus (i : InMode) (d : Nibble) (k : Kd4269) : Option (Nibble × Kd4269) :=
  match i with
  | .contact | .encoded => some (d, k)
  | .sensor | .notUsed => none

/-- onRead(code) (R210, R234 to R243): the four bits returned and the device after. SBM and ADM have no row (R243). -/
def kdRead (op : ReadOp) (d : Nibble) (k : Kd4269) : Option (Nibble × Kd4269) :=
  match op with
  | .rdm => k.modes.map fun m => (displayReg k, advancePtr m.1 k)
  | .rd3 => k.modes.map fun _ => (displayReg k, k)
  | .rd0 => k.modes.bind fun m => kdReadStatus m.2 d k
  | .rd1 => k.modes.bind fun m => kdReadFirst m.2 d k
  | .rd2 => k.modes.bind fun m => kdReadSecond m.2 d k
  | .sbm => none
  | .adm => none

/-- What a SRC says to the display side (R229): `e` is the even register, `n` the odd one. -/
def kdSrcDisplay (o : OutMode) (e n : Nibble) (k : Kd4269) : Kd4269 :=
  match o with
  | .individual =>
    match e.toNat with
    | 0b0100 => { k with ptr := { side := .a, n := n }, blankA := false }
    | 0b0101 => { k with ptr := { side := .b, n := n }, blankB := false }
    | 0b0110 => { k with ptr := { side := .a, n := n }, blankA := true }
    | 0b0111 => { k with ptr := { side := .b, n := n }, blankB := true }
    | _ => k
  | .gas20 | .gas18 | .gas16 =>
    match e.toNat with
    | 0b0100 => { k with ptr := { side := .a, n := n }, displayBlanked := false }
    | 0b0110 =>
      let k := if Config.gasBlankOverwrites then blankDisplay o k else k
      { k with ptr := { side := .a, n := n }, displayBlanked := true }
    | _ => k

/-- What a SRC says to the input side (R229): a sensor group in scanned sensor mode, nothing else. -/
def kdSrcInput (i : InMode) (e n : Nibble) (k : Kd4269) : Kd4269 :=
  match i with
  | .sensor => if e = 0b0100#4 then { k with sensGroup := n.extractLsb' 1 3 } else k
  | .contact | .encoded | .notUsed => k

/-- onSrc(s) (R229): read against the output mode and the input mode both. Before WR0 it only selects the device (R226). -/
def kdSrc (s : Byte) (k : Kd4269) : Kd4269 :=
  match k.modes with
  | none => k
  | some m => kdSrcInput m.2 (upper s) (lower s) (kdSrcDisplay m.1 (upper s) (lower s) k)

/-- A move of the environment on the 4269s (R72, R224, R225; log 11, 22). -/
def applyMove (depth : Nat) (kds : Vector Kd4269 8) : DeviceMove → Vector Kd4269 8
  | .fifo b es => put (w := 3) kds b { look (w := 3) kds b with fifo := es.take depth }
  | .sensors b g v =>
    put (w := 3) kds b { look (w := 3) kds b with sens := put (w := 3) (look (w := 3) kds b).sens g v }
  | .statusBuffer b v => put (w := 3) kds b { look (w := 3) kds b with statusBuffer := v }
  | .intLine b l => put (w := 3) kds b { look (w := 3) kds b with intLine := l }

end Sys2Proof.Machine
end

