-- ==== Sys2Proof/Machine/Io4265.lean ====
section
/-! DEFINITION. The 4265 general-purpose I/O device as the I/O instructions see it: onSrc, onWrite and onRead of
spec/43_io_ram.md R210 (spec/45_4265_io.md R250 to R268). `none` says that no mode is set (R253). -/

namespace Sys2Proof.Machine

/-- The mode groups of R254. -/
inductive ModeGroup where
  | g1
  | g0
  | g12
  deriving DecidableEq, Repr

/-- `group(m)` (R254). -/
def modeGroup (m : Fin 14) : ModeGroup :=
  match m.val with
  | 1 | 2 | 3 => .g1
  | 12 | 13 => .g12
  | _ => .g0

/-- What the card's table settles of dir4265 (R268): a write without Note 1 is to an output. -/
def forcedOutput (m : Fin 14) (p : Port) : Bool :=
  match modeGroup m, p with
  | .g1, .w => true
  | .g1, .x => true
  | .g12, .w => true
  | .g12, .x => true
  | .g12, .y => true
  | _, _ => false

/-- dir4265(m, p) (R268): an open parameter where the table does not settle it (log 17). -/
def portDirection (m : Fin 14) (p : Port) : Direction :=
  if forcedOutput m p then .output else Config.dir4265 m p

/-- OUT4265[p] (R252). -/
def portLatch (d : Io4265) : Port → Nibble
  | .w => d.outW
  | .x => d.outX
  | .y => d.outY
  | .z => d.outZ

/-- `OUT4265[p] <- v`; ignored while the ports are disabled (R251, D28; log 26). -/
def setPort (d : Io4265) (p : Port) (v : Nibble) : Io4265 :=
  if d.enabled then
    match p with
    | .w => { d with outW := v }
    | .x => { d with outX := v }
    | .y => { d with outY := v }
    | .z => { d with outZ := v }
  else d

/-- A write under Note 1: action if the port is designated output, otherwise none (R268). -/
def setOutputPort (m : Fin 14) (d : Io4265) (p : Port) (v : Nibble) : Io4265 :=
  match portDirection m p with
  | .output => setPort d p v
  | .input => d

/-- A nibble with bit `i` replaced. -/
def setBit (x : Nibble) (i : BitVec 2) (b : Bool) : Nibble :=
  if b then x ||| (1#4 <<< i.toNat) else x &&& ~~~(1#4 <<< i.toNat)

/-- The port, Y or Z, and the place of the bit that a number designates (R257). -/
def bitTarget (n : BitVec 3) : Port × BitVec 2 :=
  let t := Config.bitTarget4265 n
  (if t.getLsbD 2 then .z else .y, t.extractLsb' 0 2)

/-- WRM (R257): bit set/reset on port Y or Z, if the port is designated output. -/
def ioSetBit (m : Fin 14) (v : Nibble) (d : Io4265) : Io4265 :=
  let t := bitTarget (v.extractLsb' 1 3)
  setOutputPort m d t.1 (setBit (portLatch d t.1) t.2 (v.getLsbD 0))

/-- WMP (R258): 1110 disables, 1111 enables, other values set the mode. Until a mode is set only a mode may be (R253; log 25). -/
def ioCommand (v : Nibble) (d : Io4265) : Option Io4265 :=
  if h : v.toNat < 14 then some { d with mode := some ⟨v.toNat, h⟩ }
  else if d.mode = none then none
  else some { d with enabled := v = 0b1111#4 }

/-- WR0 (R259). -/
def ioWr0 (m : Fin 14) (v : Nibble) (d : Io4265) : Io4265 :=
  match modeGroup m with
  | .g1 => setPort d .w v
  | .g0 => setOutputPort m d .w v
  | .g12 => setPort d .y v

/-- WR1 (R260). -/
def ioWr1 (m : Fin 14) (v : Nibble) (d : Io4265) : Io4265 :=
  match modeGroup m with
  | .g1 => setPort d .x v
  | .g0 => setOutputPort m d .x v
  | .g12 => setPort d .y v

/-- WR2 (R261). -/
def ioWr2 (m : Fin 14) (v : Nibble) (d : Io4265) : Io4265 :=
  match modeGroup m with
  | .g1 => setOutputPort m d .y v
  | .g0 => setOutputPort m d .y v
  | .g12 => setPort d .y v

/-- WR3 (R262): in modes 1 to 3 the card's dash, no action. -/
def ioWr3 (m : Fin 14) (v : Nibble) (d : Io4265) : Io4265 :=
  match modeGroup m with
  | .g1 => d
  | .g0 => setOutputPort m d .z v
  | .g12 => setPort d .y v

/-- onWrite(code, v) (R210, R257 to R262). -/
def ioWrite (op : WriteOp) (v : Nibble) (d : Io4265) : Option Io4265 :=
  match op with
  | .wmp => ioCommand v d
  | .wrm => d.mode.map fun m => ioSetBit m v d
  | .wr0 => d.mode.map fun m => ioWr0 m v d
  | .wr1 => d.mode.map fun m => ioWr1 m v d
  | .wr2 => d.mode.map fun m => ioWr2 m v d
  | .wr3 => d.mode.map fun m => ioWr3 m v d

/-- The port that a read code names (R254, R263 to R267). -/
def readPortOf (op : ReadOp) (g : ModeGroup) : Port :=
  match op, g with
  | .rd0, .g1 => .w
  | .rd0, .g0 => .w
  | .rd1, .g1 => .x
  | .rd1, .g0 => .x
  | .rd3, .g1 => .z
  | .rd3, .g0 => .z
  | _, _ => .y

/-- read4265(p) (R263): the input lines, or the latch of an output port; a free value while the ports are disabled (R251). -/
def readPort (m : Fin 14) (p : Port) (lines free : Nibble) (d : Io4265) : Nibble :=
  if d.enabled then
    match portDirection m p with
    | .input => lines
    | .output => portLatch d p
  else free

/-- onRead(code) (R210, R263 to R267): the four bits returned; the device does not change. -/
def ioRead (op : ReadOp) (lines free : Nibble) (d : Io4265) : Option Nibble :=
  d.mode.map fun m => readPort m (readPortOf op (modeGroup m)) lines free d

/-- Whether the device is in mode 12 or 13, in which it answers for its whole bank (R256). -/
def answersWholeBank (d : Io4265) : Bool :=
  match d.mode with
  | none => false
  | some m => modeGroup m == .g12

/-- onSrc(s) (R255, R256): in modes 12 and 13 the eight address bits go out on ports W and X; otherwise nothing changes. -/
def ioSrc (s : Byte) (d : Io4265) : Io4265 :=
  if answersWholeBank d then setPort (setPort d .w (upper s)) .x (lower s) else d

end Sys2Proof.Machine
end

