-- ==== Sys2Proof/Machine/Ops.lean ====
section
/-! DEFINITION. The named operations of the machine: cells of memory, the parameters and inputs as the machine reads them, the
stack, the selection by SRC, the RAM-side dispatch, the ROM bank switch, program memory, taking an interrupt and returning from
one. -/

namespace Sys2Proof.Machine

/-! ### Cells: the one canonical form of every memory -/

/-- The value at an address, none where the address is not listed: nothing has written it (R46, R80). -/
def readCell {α : Type} : List (Nat × α) → Nat → Option α
  | [], _ => none
  | c :: rest, k => if c.1 = k then some c.2 else readCell rest k

/-- Write an address, keeping the addresses strictly rising. -/
def writeCell {α : Type} : List (Nat × α) → Nat → α → List (Nat × α)
  | [], k, v => [(k, v)]
  | c :: rest, k, v =>
    if k < c.1 then (k, v) :: c :: rest
    else if k = c.1 then (k, v) :: rest
    else c :: writeCell rest k v

/-- The canonical form of one memory of `n` addresses: strictly rising, in range. An unlisted address holds no value, so no
entry can equal what it reads as. -/
abbrev cellsWf {α : Type} (n : Nat) (l : List (Nat × α)) : Prop :=
  l.Pairwise (fun c d => c.1 < d.1) ∧ ∀ c ∈ l, c.1 < n

/-- The canonical form of all memories (R60 gives the address spaces). -/
abbrev Memory.wf (m : Memory) : Prop :=
  cellsWf 8192 m.rom ∧ cellsWf 16384 m.pram ∧ cellsWf 2048 m.ramch ∧ cellsWf 512 m.ramst ∧ cellsWf 32 m.ramport ∧
    cellsWf 32 m.romport

/-- The flat address of PROG(rb, addr) (R60). -/
def progKey (rb : Bit) (a : Addr) : Nat := rb.toNat * 4096 + a.toNat

/-- The flat address of a half of a program memory word: first is the upper half (R199). -/
def halfKey (rb : Bit) (a : Addr) : Half → Nat
  | .first => progKey rb a * 2
  | .second => progKey rb a * 2 + 1

/-- The flat address of RAMCH(b, c, g, h), where `a` = c ++ g ++ h (R65, form 1). -/
def ramchKey (b : BankNo) (a : Byte) : Nat := b.toNat * 256 + a.toNat

/-- The flat address of RAMST(b, c, g, k): chip and register of the selection, its low four bits not relevant (R65, form 2). -/
def ramstKey (b : BankNo) (a : Byte) (k : BitVec 2) : Nat := (b.toNat * 16 + (upper a).toNat) * 4 + k.toNat

/-- The flat address of RAMPORT(b, c): the chip bits alone (R65, form 3). -/
def ramportKey (b : BankNo) (a : Byte) : Nat := b.toNat * 4 + (a.extractLsb' 6 2).toNat

/-- The flat address of ROMPORT(rb, n) (R60, R65, form 4). -/
def romportKey (rb : Bit) (n : Nibble) : Nat := rb.toNat * 16 + n.toNat

/-! ### What the machine reads of its parameters, inputs and free values -/

/-- Whether the processor is a 4040 (R2). -/
def is4040 (s : State) : Bool := s.plat.cpu == .c4040

/-- RB in force; the constant 0 on a 4004 (R28, D36). -/
def romBank (s : State) : Bit := if is4040 s then s.bank.rb else 0#1

/-- SB; the constant 0 on a 4004 (R29, D36). -/
def irBank (s : State) : Bit := if is4040 s then s.sb else 0#1

/-- HALTED; a 4004 has no halt state (R32, D36). -/
def isHalted (s : State) : Bool := is4040 s && s.halted

/-- bankOf(CR) (R64). -/
def bankOf (cr : BankNo) : BankNo := cr

/-- What the environment supplies in this step (R74; log 8). -/
def inputNow (s : State) : Inputs :=
  match s.inputs with
  | [] => Config.input s.clock
  | i :: _ => i

/-- TestIn() (R26, R291). -/
def testIn (s : State) : Bit := (inputNow s).test

/-- PortIn(p) of the one input port this step reads (R40, R74, R252). -/
def portIn (s : State) : Nibble := (inputNow s).port

/-- draw(4) at a site of this step (R80; log 9). -/
def drawNow (s : State) (site : DrawSite) : Nibble := Config.draw s.clock site

/-- slot(b, c) (R67). -/
def slotOf (m : BankMap) (c : BitVec 2) : Device :=
  match c.toNat with
  | 0 => if m.chip0Ram then .ram4002 else .empty
  | 1 => match m.chip1 with
    | .empty => .empty
    | .ram4002 => .ram4002
    | .dev4269 => .dev4269
  | 2 => match m.chip2 with
    | .empty => .empty
    | .ram4002 => .ram4002
    | .dev4265 => .dev4265
  | _ => match m.chip3 with
    | .empty => .empty
    | .ram4002 => .ram4002
    | .dev4265 => .dev4265

/-- IntIn() (R44, R284): the INT line of the 4269 that is wired to it, else the environment's level (D35; log 10). -/
def intIn (s : State) : Bool :=
  match s.plat.intWiring with
  | none => (inputNow s).int
  | some b =>
    match (look (w := 3) s.plat.banks b).chip1 with
    | .dev4269 => (look (w := 3) s.kd b).intLine
    | .empty | .ram4002 => (inputNow s).int

/-- Whether the platform has a 4269 anywhere. -/
def has4269 (p : Platform) : Bool := p.banks.toList.any fun m => m.chip1 == .dev4269

/-- The environment's moves on the 4269s before this step (R72, R281; log 11). -/
def environmentMoves (s : State) : State :=
  if has4269 s.plat then s.setKd ((inputNow s).moves.foldl (applyMove s.plat.fifoDepth) s.kd) else s

/-- What passes at the end of a step: the next free values and the next inputs (log 8, 9). -/
def tick (s : State) : State := (s.setClock (s.clock + 1)).setInputs s.inputs.tail

/-- Apply a change to a next state; stops stay. -/
def onNext (o : Host.Outcome State Fault Refusal) (f : State → State) : Host.Outcome State Fault Refusal :=
  match o with
  | .next t => .next (f t)
  | .fault r => .fault r
  | .refused r => .refused r

/-! ### The program counter -/

/-- next(a) for an instruction of `n` words (R15): modulo 4096. -/
def nextAddr (s : State) (n : Nat) : Addr := s.pc + BitVec.ofNat 12 n

/-- `PC <- next(a)`. -/
def advance (n : Nat) (s : State) : State := s.setPc (nextAddr s n)

/-! ### The stack -/

/-- push(v) (R146): the stack after it; none where it is full and STACK_WRAP is false. -/
def pushStack (s : State) (v : Addr) : Option Stack :=
  if s.plat.stackWrap then
    some { s.stack with ar := s.stack.ar.set s.stack.sp v, sp := (s.stack.sp + 1) % (s.plat.stackDepth + 1) }
  else if s.stack.levels.length < s.plat.stackDepth then
    some { s.stack with levels := s.stack.levels ++ [v] }
  else none

/-- pop() (R147): the address and the stack after it; none where it is empty and STACK_WRAP is false. Under STACK_WRAP the
register left behind keeps the program counter, which it is (R146; log 15). -/
def popStack (s : State) : Option (Addr × Stack) :=
  if s.plat.stackWrap then
    let sp := (s.stack.sp + s.plat.stackDepth) % (s.plat.stackDepth + 1)
    let ar := s.stack.ar.set s.stack.sp s.pc
    some (ar.getD sp 0#12, { s.stack with ar := ar, sp := sp })
  else
    match s.stack.levels.getLast? with
    | none => none
    | some v => some (v, { s.stack with levels := s.stack.levels.dropLast })

/-! ### The RAM side: who answers -/

/-- How many chip addresses of a bank hold a device. -/
def occupied (m : BankMap) : Nat :=
  (if m.chip0Ram then 1 else 0) + (if m.chip1 = .empty then 0 else 1) + (if m.chip2 = .empty then 0 else 1) +
    (if m.chip3 = .empty then 0 else 1)

/-- How a bank answers (R67, R256). -/
inductive BankAnswer where
  /-- Each chip address for itself. -/
  | perChip
  /-- The 4265 at chip 2 (bit 0) or chip 3 (bit 1), in mode 12 or 13, for the whole bank. -/
  | whole (high : Bit)
  /-- Such a 4265 in a bank that holds something else: the platform R256 excludes (log 27). -/
  | clash
  deriving DecidableEq, Repr

/-- The 4265 at chip 2 (high = 0) or 3 (high = 1) of a bank. -/
def ioAt (s : State) (b : BankNo) (high : Bit) : Io4265 := look (w := 4) s.io (b ++ high)

/-- How bank `b` answers now (R256). -/
def bankAnswer (s : State) (b : BankNo) : BankAnswer :=
  let m := look (w := 3) s.plat.banks b
  let whole2 := m.chip2 == .dev4265 && answersWholeBank (ioAt s b 0#1)
  let whole3 := m.chip3 == .dev4265 && answersWholeBank (ioAt s b 1#1)
  if whole2 || whole3 then
    if occupied m = 1 then .whole (if whole2 then 0#1 else 1#1) else .clash
  else .perChip

/-- What an access to bank `b` with selection `a` reaches (R191). -/
inductive Target where
  | empty
  | ram4002
  | dev4269
  | dev4265 (high : Bit)
  | clash
  deriving DecidableEq, Repr

/-- The device that answers the selection `a` in bank `b` (R65, R67, R191, R256). -/
def targetOf (s : State) (b : BankNo) (a : Byte) : Target :=
  match bankAnswer s b with
  | .clash => .clash
  | .whole high => .dev4265 high
  | .perChip =>
    match slotOf (look (w := 3) s.plat.banks b) (a.extractLsb' 6 2) with
    | .empty => .empty
    | .ram4002 => .ram4002
    | .dev4269 => .dev4269
    | .dev4265 => .dev4265 (a.extractLsb' 6 1)

/-- The 4269 of a bank replaced. -/
def setKdAt (s : State) (b : BankNo) (k : Kd4269) : State := s.setKd (put (w := 3) s.kd b k)

/-- A 4265 of a bank replaced. -/
def setIoAt (s : State) (b : BankNo) (high : Bit) (d : Io4265) : State := s.setIo (put (w := 4) s.io (b ++ high) d)

/-- deviceOnSrc(b, a) (R190, R228, R229, R255, R256). -/
def deviceOnSrc (s : State) (b : BankNo) (a : Byte) : Host.Outcome State Fault Refusal :=
  match targetOf s b a with
  | .empty => .next s
  | .ram4002 => .next s
  | .dev4269 => .next (setKdAt s b (kdSrc a (look (w := 3) s.kd b)))
  | .dev4265 high => .next (setIoAt s b high (ioSrc a (ioAt s b high)))
  | .clash => .refused (.bankShared s.pc b)

/-- `SEL[bankOf(CR)] <- a; ROMSEL[RB] <- a` (R66). -/
def latchSelection (s : State) (a : Byte) : State :=
  (s.setSel (put (w := 3) s.sel (bankOf s.cr) (some a))).setRomSel (put (w := 1) s.romSel (romBank s) (some a))

/-- The address `a` sent to ROM and RAM: the latches and the device that receives it (R66, R190). -/
def sendSrc (s : State) (a : Byte) : Host.Outcome State Fault Refusal :=
  deviceOnSrc (latchSelection s a) (bankOf s.cr) a

/-! ### The interrupt of the 4040 -/

/-- interruptRecognised() (R285). -/
def interruptRecognised (s : State) : Bool := is4040 s && s.ie && !s.inService && intIn s

/-- interruptEntry() (R286): a forced call of INT_VECTOR. No instruction executes in this step (R289), so R280 does not say which
address its StackOverflow carries: the program counter, of the instruction not yet executed (DESIGN CHOICE, log 42). -/
def interruptEntry (s : State) : Host.Outcome State Fault Refusal :=
  match pushStack s s.pc with
  | none => .fault (.stackOverflow s.pc)
  | some st =>
    let t := (((s.setStack st).setPc Config.intVector).setInService true).setHalted false
    .next (if s.plat.intEntryClearsIe then t.setIe false else t)

/-- The return from an interrupt routine (R171, R287): pop, send SRCREG again as SRC would, leave service. -/
def returnFromInterrupt (s : State) : Host.Outcome State Fault Refusal :=
  match popStack s with
  | none => .fault (.stackUnderflow s.pc)
  | some (a, st) =>
    match s.srcReg with
    | none => .fault (.ioBeforeSrc s.pc)
    | some r => onNext (sendSrc s r) fun t => ((t.setStack st).setPc a).setInService false

/-- Whether a request ends the halt without a routine (R288). -/
def haltEndsQuietly (s : State) : Bool :=
  s.plat.haltExitWhenDisabled && !s.ie && !s.inService && intIn s

/-! ### ROM banks and program memory -/

/-- What DB0 and DB1 do to RBNEXT, RBCOUNT and, with no delay, RB (R177 to R179). -/
def selectRomBank (s : State) (n : Bit) : State :=
  let d := s.plat.romBankDelay
  s.setBank { rb := if d = 0 then n else s.bank.rb, next := n, count := d }

/-- bankUpdate() before each instruction word fetched (R177). -/
def bankUpdate (s : State) : State :=
  if is4040 s ∧ s.bank.rb ≠ s.bank.next then
    if s.bank.count = 0 then s.setBank { s.bank with rb := s.bank.next }
    else s.setBank { s.bank with count := s.bank.count - 1 }
  else s

/-- Whether the word is of read/write program memory (R70, R79). -/
def isProgRam (p : Platform) (rb : Bit) (a : Addr) : Bool := p.progRamPages.contains (rb, pageOf a)

/-- MemRead(PROG(rb, a), 1) (R61, R70, R75): none where the platform has no program memory. A half of program RAM that nothing
has written is drawn at its site (R80; log 14). -/
def progWord (s : State) (rb : Bit) (a : Addr) (u l : DrawSite) : Option Byte :=
  if isProgRam s.plat rb a then
    some (joinHalves ((readCell s.mem.pram (halfKey rb a .first)).getD (drawNow s u))
      ((readCell s.mem.pram (halfKey rb a .second)).getD (drawNow s l)))
  else readCell s.mem.rom (progKey rb a)

/-- The word of program RAM that WPM and RPM act on (R79; log 12); none on a platform with no program RAM there (D25). -/
def progRamWord (s : State) : Option (Bit × Addr) :=
  match s.plat.progRamPages with
  | [] => none
  | _ :: _ =>
    let w := Config.progRamAddr { romSel := s.romSel, sel := s.sel, romPorts := s.mem.romport, rb := romBank s, cr := s.cr }
    if isProgRam s.plat w.1 w.2 then some w else none

/-- other(HALFSEL) (R199). -/
def otherHalf : Half → Half
  | .first => .second
  | .second => .first

/-- MemWrite(PRAM(w, HALFSEL), 1, v), nothing on a platform with no program RAM (R196). -/
def writeProgRam (s : State) (v : Nibble) : State :=
  match progRamWord s with
  | none => s
  | some w => s.setMem { s.mem with pram := writeCell s.mem.pram (halfKey w.1 w.2 s.halfSel) v }

/-- The word that RPM reads: that of R79 if a 4289 controls it (R184), as none of the 4008/4009's program RAM is. -/
def rpmWord (s : State) : Option (Bit × Addr) :=
  match progRamWord s with
  | none => none
  | some w => if s.plat.pages4289.contains (w.1, pageOf w.2) then some w else none

/-- MemRead(PRAM(w, HALFSEL), 1), a free value where no 4289-controlled program RAM is there (R184) or nothing has been written
(R80). -/
def readProgRam (s : State) : Nibble :=
  match rpmWord s with
  | none => drawNow s .received
  | some w => (readCell s.mem.pram (halfKey w.1 w.2 s.halfSel)).getD (drawNow s .received)

/-! ### A 4002 -/

/-- The status character or port that a write code names, and the effect (R193, R194, R197, R198, R200, R201). -/
def ram4002Write (m : Memory) (b : BankNo) (a : Byte) (op : WriteOp) (v : Nibble) : Memory :=
  match op with
  | .wrm => { m with ramch := writeCell m.ramch (ramchKey b a) v }
  | .wmp => { m with ramport := writeCell m.ramport (ramportKey b a) v }
  | .wr0 => { m with ramst := writeCell m.ramst (ramstKey b a 0#2) v }
  | .wr1 => { m with ramst := writeCell m.ramst (ramstKey b a 1#2) v }
  | .wr2 => { m with ramst := writeCell m.ramst (ramstKey b a 2#2) v }
  | .wr3 => { m with ramst := writeCell m.ramst (ramstKey b a 3#2) v }

/-- What a read code reads of a 4002, none where nothing has written it (R202, R203, R205 to R209). -/
def ram4002Read (m : Memory) (b : BankNo) (a : Byte) (op : ReadOp) : Option Nibble :=
  match op with
  | .sbm => readCell m.ramch (ramchKey b a)
  | .rdm => readCell m.ramch (ramchKey b a)
  | .adm => readCell m.ramch (ramchKey b a)
  | .rd0 => readCell m.ramst (ramstKey b a 0#2)
  | .rd1 => readCell m.ramst (ramstKey b a 1#2)
  | .rd2 => readCell m.ramst (ramstKey b a 2#2)
  | .rd3 => readCell m.ramst (ramstKey b a 3#2)

/-! ### The RAM-side instructions, device by device -/

/-- The outside effect of a write code (R191, R210); the program counter is not advanced here. -/
def ramWrite (op : WriteOp) (s : State) : Host.Outcome State Fault Refusal :=
  let b := bankOf s.cr
  match look (w := 3) s.sel b with
  | none => .fault (.ioBeforeSrc s.pc)
  | some a =>
    match targetOf s b a with
    | .empty => .next s
    | .ram4002 => .next (s.setMem (ram4002Write s.mem b a op s.acc))
    | .dev4269 =>
      match kdWrite s.plat.fifoDepth s.clock op s.acc (look (w := 3) s.kd b) with
      | some k => .next (setKdAt s b k)
      | none => .fault (.unmodelledDeviceOp s.pc .dev4269 op.code)
    | .dev4265 high =>
      match ioWrite op s.acc (ioAt s b high) with
      | some d => .next (setIoAt s b high d)
      | none => .fault (.unmodelledDeviceOp s.pc .dev4265 op.code)
    | .clash => .refused (.bankShared s.pc b)

/-- The four bits that a read code receives and the state after the device gave them (R191, R210), then `f` of both. -/
def ramRead (op : ReadOp) (s : State) (f : Nibble → State → State) : Host.Outcome State Fault Refusal :=
  let b := bankOf s.cr
  match look (w := 3) s.sel b with
  | none => .fault (.ioBeforeSrc s.pc)
  | some a =>
    match targetOf s b a with
    | .empty => .next (f (drawNow s .received) s)
    | .ram4002 => .next (f ((ram4002Read s.mem b a op).getD (drawNow s .received)) s)
    | .dev4269 =>
      match kdRead op (drawNow s .received) (look (w := 3) s.kd b) with
      | some (v, k) => .next (f v (setKdAt s b k))
      | none => .fault (.unmodelledDeviceOp s.pc .dev4269 op.code)
    | .dev4265 high =>
      match ioRead op (portIn s) (drawNow s .received) (ioAt s b high) with
      | some v => .next (f v s)
      | none => .fault (.unmodelledDeviceOp s.pc .dev4265 op.code)
    | .clash => .refused (.bankShared s.pc b)

/-! ### The ROM side -/

/-- The ROM port that the selection names, ROMSEL[RB][7:4]; none while the latch is unset (R192). -/
def romPort (s : State) : Option Nibble := (look (w := 1) s.romSel (romBank s)).map upper

/-- romPortPresent(rb, n) (R192). -/
def romPortPresent (p : Platform) (rb : Bit) (n : Nibble) : Bool := !p.absentRomPorts.contains (rb, n)

/-- The outside effect of WRR (R192, R195): a port that is absent loses the write. -/
def romWrite (s : State) : Host.Outcome State Fault Refusal :=
  match romPort s with
  | none => .fault (.ioBeforeSrc s.pc)
  | some n =>
    if romPortPresent s.plat (romBank s) n then
      .next (s.setMem { s.mem with romport := writeCell s.mem.romport (romportKey (romBank s) n) s.acc })
    else .next s

/-- The four bits of RDR (R192, R204): the lines of the port, a free value where the port is absent. -/
def romRead (s : State) : Host.Outcome State Fault Refusal :=
  match romPort s with
  | none => .fault (.ioBeforeSrc s.pc)
  | some n => .next (s.setAcc (if romPortPresent s.plat (romBank s) n then portIn s else drawNow s .received))

/-! ### 4040-only instructions -/

/-- An effect that a 4040 has and a 4004 does not (R97, R185): `w` is the instruction's word. -/
def on4040 (w : Byte) (s : State) (o : Host.Outcome State Fault Refusal) : Host.Outcome State Fault Refusal :=
  if is4040 s then o else .fault (.notExecutableOn4004 s.pc w)

end Sys2Proof.Machine
end

