-- ==== Sys2Proof/Machine/Operands.lean ====
section
/-! DEFINITION. Every operand form: a register, a register pair, a condition, an address within a page (spec/30_encoding.md R92,
spec/10_state.md R22, R23, R29; spec/40_basic_machine.md R131, R145). -/

namespace Sys2Proof.Machine

/-- The low three bits of a register number: its place in its half of the file (R29). -/
def regSlot (r : Nibble) : BitVec 3 := r.extractLsb' 0 3

/-- IR[r] (R22, R29): registers 8 to 15 exist once, 0 to 7 in the bank that SB selects. -/
def reg (s : State) (r : Nibble) : Nibble :=
  if r.getLsbD 3 then look (w := 3) s.ir.common (regSlot r)
  else if irBank s = 0#1 then look (w := 3) s.ir.bank0 (regSlot r)
  else look (w := 3) s.ir.bank1 (regSlot r)

/-- The register file after `IR[r] <- v` (R29). -/
def regFileSet (s : State) (r v : Nibble) : RegFile :=
  if r.getLsbD 3 then { s.ir with common := put (w := 3) s.ir.common (regSlot r) v }
  else if irBank s = 0#1 then { s.ir with bank0 := put (w := 3) s.ir.bank0 (regSlot r) v }
  else { s.ir with bank1 := put (w := 3) s.ir.bank1 (regSlot r) v }

/-- `IR[r] <- v`. -/
def setReg (s : State) (r v : Nibble) : State := s.setIr (regFileSet s r v)

/-- The even register of a pair, RRR even (R23). -/
def evenReg (p : PairNo) : Nibble := p ++ 0#1

/-- The odd register of a pair, RRR odd (R23). -/
def oddReg (p : PairNo) : Nibble := p ++ 1#1

/-- PAIR[p] = IR[2p] ++ IR[2p+1] (R23). -/
def pair (s : State) (p : PairNo) : Byte := joinHalves (reg s (evenReg p)) (reg s (oddReg p))

/-- `PAIR[p] <- d` (R23, R62 (e)). -/
def setPair (s : State) (p : PairNo) (d : Byte) : State := setReg (setReg s (evenReg p) (upper d)) (oddReg p) (lower d)

/-- C1 C2 C3 C4 against ACC, CY and the Test input (R131). The Test input is looked at only when C4 is 1. -/
def jcnTaken (c : Nibble) (s : State) : Bool :=
  let any := (c.getLsbD 2 && s.acc == 0#4) || (c.getLsbD 1 && s.cy == 1#1) || (c.getLsbD 0 && testIn s == 0#1)
  if c.getLsbD 3 then !any else any

/-- An address of eight low bits in the page of next(a) (R145). -/
def shortTarget (s : State) (words : Nat) (low : Byte) : Addr := inPage (pageOf (nextAddr s words)) low

/-- A result and a carry into ACC and CY (R149). -/
def setAccCy (s : State) (r : Nibble × Bit) : State := (s.setAcc r.1).setCy r.2

end Sys2Proof.Machine
end

