-- ==== Sys2Proof/Machine/Accumulator.lean ====
section
/-! DEFINITION. The accumulator group, codes F0 to FD (spec/41_accumulator_group.md R150 to R163). -/

namespace Sys2Proof.Machine

/-- CLB (R150). -/
def execClb (s : State) : Host.Outcome State Fault Refusal := .next (advance 1 (setAccCy s (0#4, 0#1)))

/-- CLC (R151). -/
def execClc (s : State) : Host.Outcome State Fault Refusal := .next (advance 1 (s.setCy 0#1))

/-- IAC (R152). -/
def execIac (s : State) : Host.Outcome State Fault Refusal := .next (advance 1 (setAccCy s (increment s.acc)))

/-- CMC (R153). -/
def execCmc (s : State) : Host.Outcome State Fault Refusal := .next (advance 1 (s.setCy (~~~s.cy)))

/-- CMA (R154). -/
def execCma (s : State) : Host.Outcome State Fault Refusal := .next (advance 1 (s.setAcc (~~~s.acc)))

/-- RAL (R155). -/
def execRal (s : State) : Host.Outcome State Fault Refusal := .next (advance 1 (setAccCy s (rotateLeft s.acc s.cy)))

/-- RAR (R156). -/
def execRar (s : State) : Host.Outcome State Fault Refusal := .next (advance 1 (setAccCy s (rotateRight s.acc s.cy)))

/-- TCC (R157). -/
def execTcc (s : State) : Host.Outcome State Fault Refusal := .next (advance 1 (setAccCy s (transmitCarry s.cy)))

/-- DAC (R158). -/
def execDac (s : State) : Host.Outcome State Fault Refusal := .next (advance 1 (setAccCy s (decrement s.acc)))

/-- TCS (R159). -/
def execTcs (s : State) : Host.Outcome State Fault Refusal := .next (advance 1 (setAccCy s (transferCarrySubtract s.cy)))

/-- STC (R160). -/
def execStc (s : State) : Host.Outcome State Fault Refusal := .next (advance 1 (s.setCy 1#1))

/-- DAA (R161). -/
def execDaa (s : State) : Host.Outcome State Fault Refusal := .next (advance 1 (setAccCy s (decimalAdjust s.acc s.cy)))

/-- KBP (R162). -/
def execKbp (s : State) : Host.Outcome State Fault Refusal := .next (advance 1 (s.setAcc (keyboardProcess s.acc)))

/-- DCL (R163): ACC[3] is ignored. -/
def execDcl (s : State) : Host.Outcome State Fault Refusal := .next (advance 1 (s.setCr (s.acc.extractLsb' 0 3)))

end Sys2Proof.Machine
end

