-- ==== Sys2Proof/Machine/BasicMachine.lean ====
section
/-! DEFINITION. The machine instructions, codes 00 to DF (spec/40_basic_machine.md R130 to R144). -/

namespace Sys2Proof.Machine

/-- NOP (R130). -/
def execNop (s : State) : Host.Outcome State Fault Refusal := .next (advance 1 s)

/-- JCN (R131, R145). -/
def execJcn (c : Nibble) (a : Byte) (s : State) : Host.Outcome State Fault Refusal :=
  .next (if jcnTaken c s then s.setPc (shortTarget s 2 a) else advance 2 s)

/-- FIM (R132). -/
def execFim (p : PairNo) (d : Byte) (s : State) : Host.Outcome State Fault Refusal :=
  .next (advance 2 (setPair s p d))

/-- FIN (R133, R77, R145): the address is the old content of pair 0. -/
def execFin (p : PairNo) (s : State) : Host.Outcome State Fault Refusal :=
  let a := shortTarget s 1 (pair s 0#3)
  match progWord s (romBank s) a .finUpper .finLower with
  | none => .fault (.noProgramMemory s.pc (romBank s) a)
  | some d => .next (advance 1 (setPair s p d))

/-- JIN (R134, R145). -/
def execJin (p : PairNo) (s : State) : Host.Outcome State Fault Refusal :=
  .next (s.setPc (shortTarget s 1 (pair s p)))

/-- JUN (R135). -/
def execJun (a : Addr) (s : State) : Host.Outcome State Fault Refusal := .next (s.setPc a)

/-- JMS (R136, R146). -/
def execJms (a : Addr) (s : State) : Host.Outcome State Fault Refusal :=
  match pushStack s (nextAddr s 2) with
  | none => .fault (.stackOverflow s.pc)
  | some st => .next ((s.setStack st).setPc a)

/-- INC (R137). -/
def execInc (r : Nibble) (s : State) : Host.Outcome State Fault Refusal :=
  .next (advance 1 (setReg s r (reg s r + 1#4)))

/-- ISZ (R138, R145): the jump is taken while the incremented register is not 0. -/
def execIsz (r : Nibble) (a : Byte) (s : State) : Host.Outcome State Fault Refusal :=
  let v := reg s r + 1#4
  let t := setReg s r v
  .next (if v ≠ 0#4 then t.setPc (shortTarget s 2 a) else advance 2 t)

/-- ADD (R139). -/
def execAdd (r : Nibble) (s : State) : Host.Outcome State Fault Refusal :=
  .next (advance 1 (setAccCy s (add4 s.acc (reg s r) s.cy)))

/-- SUB (R140). -/
def execSub (r : Nibble) (s : State) : Host.Outcome State Fault Refusal :=
  .next (advance 1 (setAccCy s (sub4 s.acc (reg s r) s.cy)))

/-- LD (R141). -/
def execLd (r : Nibble) (s : State) : Host.Outcome State Fault Refusal :=
  .next (advance 1 (s.setAcc (reg s r)))

/-- XCH (R142). -/
def execXch (r : Nibble) (s : State) : Host.Outcome State Fault Refusal :=
  .next (advance 1 ((setReg s r s.acc).setAcc (reg s r)))

/-- BBL (R143, R147). -/
def execBbl (d : Nibble) (s : State) : Host.Outcome State Fault Refusal :=
  match popStack s with
  | none => .fault (.stackUnderflow s.pc)
  | some (a, st) => .next (((s.setStack st).setPc a).setAcc d)

/-- LDM (R144). -/
def execLdm (d : Nibble) (s : State) : Host.Outcome State Fault Refusal :=
  .next (advance 1 (s.setAcc d))

end Sys2Proof.Machine
end

