-- ==== Sys2Proof/Machine/IoRam.lean ====
section
/-! DEFINITION. The input/output and RAM instructions, SRC and codes E0 to EF (spec/43_io_ram.md R190 to R209). What a 4269 or a
4265 does with them is in Machine/Kd4269.lean and Machine/Io4265.lean. -/

namespace Sys2Proof.Machine

/-- The state of which SRC sends the address: SRCREG keeps it on a 4040 outside service (R33, R190). -/
def keepSrc (s : State) (a : Byte) : State := if is4040 s && !s.inService then s.setSrcReg (some a) else s

/-- SRC (R190, R66). -/
def execSrc (p : PairNo) (s : State) : Host.Outcome State Fault Refusal :=
  onNext (sendSrc (keepSrc s (pair s p)) (pair s p)) (advance 1)

/-- WRM (R193, R233, R257). -/
def execWrm (s : State) : Host.Outcome State Fault Refusal := onNext (ramWrite .wrm s) (advance 1)

/-- WMP (R194, R235, R258). -/
def execWmp (s : State) : Host.Outcome State Fault Refusal := onNext (ramWrite .wmp s) (advance 1)

/-- WRR (R195, R192). -/
def execWrr (s : State) : Host.Outcome State Fault Refusal := onNext (romWrite s) (advance 1)

/-- WPM (R196, R199). -/
def execWpm (s : State) : Host.Outcome State Fault Refusal :=
  .next (advance 1 ((writeProgRam s s.acc).setHalfSel (otherHalf s.halfSel)))

/-- WR0 (R197, R227, R259). -/
def execWr0 (s : State) : Host.Outcome State Fault Refusal := onNext (ramWrite .wr0 s) (advance 1)

/-- WR1 (R198, R231, R232, R260). -/
def execWr1 (s : State) : Host.Outcome State Fault Refusal := onNext (ramWrite .wr1 s) (advance 1)

/-- WR2 (R200, R237, R241, R261). -/
def execWr2 (s : State) : Host.Outcome State Fault Refusal := onNext (ramWrite .wr2 s) (advance 1)

/-- WR3 (R201, R230, R262). -/
def execWr3 (s : State) : Host.Outcome State Fault Refusal := onNext (ramWrite .wr3 s) (advance 1)

/-- SBM (R202, R267). -/
def execSbm (s : State) : Host.Outcome State Fault Refusal :=
  ramRead .sbm s fun m t => advance 1 (setAccCy t (sub4 s.acc m s.cy))

/-- RDM (R203, R234, R266). -/
def execRdm (s : State) : Host.Outcome State Fault Refusal := ramRead .rdm s fun m t => advance 1 (t.setAcc m)

/-- RDR (R204, R192). -/
def execRdr (s : State) : Host.Outcome State Fault Refusal := onNext (romRead s) (advance 1)

/-- ADM (R205, R267). -/
def execAdm (s : State) : Host.Outcome State Fault Refusal :=
  ramRead .adm s fun m t => advance 1 (setAccCy t (add4 m s.acc s.cy))

/-- RD0 (R206, R240, R263). -/
def execRd0 (s : State) : Host.Outcome State Fault Refusal := ramRead .rd0 s fun m t => advance 1 (t.setAcc m)

/-- RD1 (R207, R238, R242, R264). -/
def execRd1 (s : State) : Host.Outcome State Fault Refusal := ramRead .rd1 s fun m t => advance 1 (t.setAcc m)

/-- RD2 (R208, R239, R242, R265). -/
def execRd2 (s : State) : Host.Outcome State Fault Refusal := ramRead .rd2 s fun m t => advance 1 (t.setAcc m)

/-- RD3 (R209, R236, R265). -/
def execRd3 (s : State) : Host.Outcome State Fault Refusal := ramRead .rd3 s fun m t => advance 1 (t.setAcc m)

end Sys2Proof.Machine
end

