-- ==== Sys2Proof/Machine/Only4040.lean ====
section
/-! DEFINITION. The 4040-only instructions, codes 01 to 0E (spec/42_4040_only.md R170 to R185). On a 4004 each of them stops
(R185). -/

namespace Sys2Proof.Machine

/-- HLT (R170): the program counter is past the HLT while the processor halts. -/
def execHlt (s : State) : Host.Outcome State Fault Refusal :=
  on4040 0x01#8 s (.next ((advance 1 s).setHalted true))

/-- BBS (R171). -/
def execBbs (s : State) : Host.Outcome State Fault Refusal := on4040 0x02#8 s (returnFromInterrupt s)

/-- LCR (R172): RB ++ CR, the bank in force. -/
def execLcr (s : State) : Host.Outcome State Fault Refusal :=
  on4040 0x03#8 s (.next (advance 1 (s.setAcc (romBank s ++ s.cr))))

/-- OR4 (R173). -/
def execOr4 (s : State) : Host.Outcome State Fault Refusal :=
  on4040 0x04#8 s (.next (advance 1 (s.setAcc (s.acc ||| reg s 4#4))))

/-- OR5 (R174). -/
def execOr5 (s : State) : Host.Outcome State Fault Refusal :=
  on4040 0x05#8 s (.next (advance 1 (s.setAcc (s.acc ||| reg s 5#4))))

/-- AN6 (R175). -/
def execAn6 (s : State) : Host.Outcome State Fault Refusal :=
  on4040 0x06#8 s (.next (advance 1 (s.setAcc (s.acc &&& reg s 6#4))))

/-- AN7 (R176). -/
def execAn7 (s : State) : Host.Outcome State Fault Refusal :=
  on4040 0x07#8 s (.next (advance 1 (s.setAcc (s.acc &&& reg s 7#4))))

/-- DB0 (R177, R178). -/
def execDb0 (s : State) : Host.Outcome State Fault Refusal :=
  on4040 0x08#8 s (.next (advance 1 (selectRomBank s 0#1)))

/-- DB1 (R177, R179). -/
def execDb1 (s : State) : Host.Outcome State Fault Refusal :=
  on4040 0x09#8 s (.next (advance 1 (selectRomBank s 1#1)))

/-- SB0 (R180). -/
def execSb0 (s : State) : Host.Outcome State Fault Refusal := on4040 0x0A#8 s (.next (advance 1 (s.setSb 0#1)))

/-- SB1 (R181). -/
def execSb1 (s : State) : Host.Outcome State Fault Refusal := on4040 0x0B#8 s (.next (advance 1 (s.setSb 1#1)))

/-- EIN (R182). -/
def execEin (s : State) : Host.Outcome State Fault Refusal := on4040 0x0C#8 s (.next (advance 1 (s.setIe true)))

/-- DIN (R183). -/
def execDin (s : State) : Host.Outcome State Fault Refusal := on4040 0x0D#8 s (.next (advance 1 (s.setIe false)))

/-- RPM (R184, R199). -/
def execRpm (s : State) : Host.Outcome State Fault Refusal :=
  on4040 0x0E#8 s (.next (advance 1 ((s.setAcc (readProgRam s)).setHalfSel (otherHalf s.halfSel))))

end Sys2Proof.Machine
end

