-- ==== Sys2Proof/Syntax.lean ====
section
/-! DEFINITION. The 60 instructions of spec/opcode_table.json, one constructor a row (spec/00_scope.md R5,
spec/30_encoding.md R93 to R95), with the operands of their formats (R91, R92). -/

namespace Sys2Proof

inductive Instr where
  -- Machine instructions, 00 to DF (R130 to R144)
  | nop
  | jcn (cond : Nibble) (addr : Byte)
  | fim (p : PairNo) (data : Byte)
  | fin (p : PairNo)
  | jin (p : PairNo)
  | jun (addr : Addr)
  | jms (addr : Addr)
  | inc (r : Nibble)
  | isz (r : Nibble) (addr : Byte)
  | add (r : Nibble)
  | sub (r : Nibble)
  | ld (r : Nibble)
  | xch (r : Nibble)
  | bbl (d : Nibble)
  | ldm (d : Nibble)
  -- Accumulator group, F0 to FD (R150 to R163)
  | clb
  | clc
  | iac
  | cmc
  | cma
  | ral
  | rar
  | tcc
  | dac
  | tcs
  | stc
  | daa
  | kbp
  | dcl
  -- 4040 only, 01 to 0E (R170 to R184)
  | hlt
  | bbs
  | lcr
  | or4
  | or5
  | an6
  | an7
  | db0
  | db1
  | sb0
  | sb1
  | ein
  | din
  | rpm
  -- Input/output and RAM, 21 to 2F odd and E0 to EF (R190 to R209)
  | src (p : PairNo)
  | wrm
  | wmp
  | wrr
  | wpm
  | wr0
  | wr1
  | wr2
  | wr3
  | sbm
  | rdm
  | rdr
  | adm
  | rd0
  | rd1
  | rd2
  | rd3
  deriving DecidableEq, Repr

end Sys2Proof
end

