-- ==== Sys2Proof/Decode.lean ====
section
/-! DEFINITION. The decoder and the encoder (spec/30_encoding.md R90 to R99). The decoder is total on every list of words: it
answers an instruction and the words after it, or rejects by name. Decoding does not depend on the processor (R90). -/

namespace Sys2Proof

open Sys2Proof.Machine

/-- Why the decoder rejects. -/
inductive DecodeError where
  /-- There is no word, or no second word where R90 asks for two. Safe: nothing is decoded. -/
  | truncated
  /-- The first word has no row: 0F, FE or FF (R96). Safe: it is no NOP. -/
  | noRow (w : Byte)
  deriving DecidableEq, Repr

/-- What the first word says: a one-word instruction, or a two-word instruction that waits for its second word (R90). -/
inductive FirstWord where
  | one (i : Instr)
  | jcn (c : Nibble)
  | fim (p : PairNo)
  | jun (a3 : Nibble)
  | jms (a3 : Nibble)
  | isz (r : Nibble)
  | noRow
  deriving DecidableEq, Repr

/-- The pair number of a PAIR or PAIRIMM word, OPA[3:1] (R91). -/
def pairField (opa : Nibble) : PairNo := opa.extractLsb' 1 3

/-- The row OPR = 0 (R94). -/
def decodeRow0 (opa : Nibble) : FirstWord :=
  match opa.toNat with
  | 0x0 => .one .nop
  | 0x1 => .one .hlt
  | 0x2 => .one .bbs
  | 0x3 => .one .lcr
  | 0x4 => .one .or4
  | 0x5 => .one .or5
  | 0x6 => .one .an6
  | 0x7 => .one .an7
  | 0x8 => .one .db0
  | 0x9 => .one .db1
  | 0xA => .one .sb0
  | 0xB => .one .sb1
  | 0xC => .one .ein
  | 0xD => .one .din
  | 0xE => .one .rpm
  | _ => .noRow

/-- The row OPR = E (R95). -/
def decodeRowE (opa : Nibble) : FirstWord :=
  match opa.toNat with
  | 0x0 => .one .wrm
  | 0x1 => .one .wmp
  | 0x2 => .one .wrr
  | 0x3 => .one .wpm
  | 0x4 => .one .wr0
  | 0x5 => .one .wr1
  | 0x6 => .one .wr2
  | 0x7 => .one .wr3
  | 0x8 => .one .sbm
  | 0x9 => .one .rdm
  | 0xA => .one .rdr
  | 0xB => .one .adm
  | 0xC => .one .rd0
  | 0xD => .one .rd1
  | 0xE => .one .rd2
  | _ => .one .rd3

/-- The row OPR = F (R95); FE and FF have no row (R96). -/
def decodeRowF (opa : Nibble) : FirstWord :=
  match opa.toNat with
  | 0x0 => .one .clb
  | 0x1 => .one .clc
  | 0x2 => .one .iac
  | 0x3 => .one .cmc
  | 0x4 => .one .cma
  | 0x5 => .one .ral
  | 0x6 => .one .rar
  | 0x7 => .one .tcc
  | 0x8 => .one .dac
  | 0x9 => .one .tcs
  | 0xA => .one .stc
  | 0xB => .one .daa
  | 0xC => .one .kbp
  | 0xD => .one .dcl
  | _ => .noRow

/-- The map of the first word by OPR (R93). -/
def decodeFirst (w : Byte) : FirstWord :=
  let opa := lower w
  match (upper w).toNat with
  | 0x0 => decodeRow0 opa
  | 0x1 => .jcn opa
  | 0x2 => if opa.getLsbD 0 then .one (.src (pairField opa)) else .fim (pairField opa)
  | 0x3 => if opa.getLsbD 0 then .one (.jin (pairField opa)) else .one (.fin (pairField opa))
  | 0x4 => .jun opa
  | 0x5 => .jms opa
  | 0x6 => .one (.inc opa)
  | 0x7 => .isz opa
  | 0x8 => .one (.add opa)
  | 0x9 => .one (.sub opa)
  | 0xA => .one (.ld opa)
  | 0xB => .one (.xch opa)
  | 0xC => .one (.bbl opa)
  | 0xD => .one (.ldm opa)
  | 0xE => decodeRowE opa
  | _ => decodeRowF opa

/-- Whether the first word asks for a second one (R90). -/
def FirstWord.twoWords : FirstWord → Bool
  | .one _ => false
  | .noRow => false
  | .jcn _ => true
  | .fim _ => true
  | .jun _ => true
  | .jms _ => true
  | .isz _ => true

/-- The instruction, once the second word is there; a one-word instruction ignores it. None where the first word has no
row (R91, R92). -/
def FirstWord.complete (f : FirstWord) (w2 : Byte) : Option Instr :=
  match f with
  | .one i => some i
  | .jcn c => some (.jcn c w2)
  | .fim p => some (.fim p w2)
  | .jun a3 => some (.jun (inPage a3 w2))
  | .jms a3 => some (.jms (inPage a3 w2))
  | .isz r => some (.isz r w2)
  | .noRow => none

/-- Decode one instruction from the words at hand and give back the words after it (R99). -/
def decode : List Byte → Except DecodeError (Instr × List Byte)
  | [] => .error .truncated
  | w :: rest =>
    let f := decodeFirst w
    if f.twoWords then
      match rest with
      | [] => .error .truncated
      | w2 :: rest2 =>
        match f.complete w2 with
        | some i => .ok (i, rest2)
        | none => .error (.noRow w)
    else
      match f.complete 0#8 with
      | some i => .ok (i, rest)
      | none => .error (.noRow w)

/-- A PAIR or PAIRIMM first word: OPR, the pair number and the opcode bit OPA[0] (R91). -/
def pairWord (opr : Nibble) (p : PairNo) (low : Bit) : Byte := opr ++ p ++ low

/-- The words of an instruction, first word first (R90 to R95). -/
def encode : Instr → List Byte
  | .nop => [0x00#8]
  | .jcn c a => [joinHalves 0x1#4 c, a]
  | .fim p d => [pairWord 0x2#4 p 0#1, d]
  | .fin p => [pairWord 0x3#4 p 0#1]
  | .jin p => [pairWord 0x3#4 p 1#1]
  | .jun a => [joinHalves 0x4#4 (pageOf a), a.extractLsb' 0 8]
  | .jms a => [joinHalves 0x5#4 (pageOf a), a.extractLsb' 0 8]
  | .inc r => [joinHalves 0x6#4 r]
  | .isz r a => [joinHalves 0x7#4 r, a]
  | .add r => [joinHalves 0x8#4 r]
  | .sub r => [joinHalves 0x9#4 r]
  | .ld r => [joinHalves 0xA#4 r]
  | .xch r => [joinHalves 0xB#4 r]
  | .bbl d => [joinHalves 0xC#4 d]
  | .ldm d => [joinHalves 0xD#4 d]
  | .clb => [0xF0#8]
  | .clc => [0xF1#8]
  | .iac => [0xF2#8]
  | .cmc => [0xF3#8]
  | .cma => [0xF4#8]
  | .ral => [0xF5#8]
  | .rar => [0xF6#8]
  | .tcc => [0xF7#8]
  | .dac => [0xF8#8]
  | .tcs => [0xF9#8]
  | .stc => [0xFA#8]
  | .daa => [0xFB#8]
  | .kbp => [0xFC#8]
  | .dcl => [0xFD#8]
  | .hlt => [0x01#8]
  | .bbs => [0x02#8]
  | .lcr => [0x03#8]
  | .or4 => [0x04#8]
  | .or5 => [0x05#8]
  | .an6 => [0x06#8]
  | .an7 => [0x07#8]
  | .db0 => [0x08#8]
  | .db1 => [0x09#8]
  | .sb0 => [0x0A#8]
  | .sb1 => [0x0B#8]
  | .ein => [0x0C#8]
  | .din => [0x0D#8]
  | .rpm => [0x0E#8]
  | .src p => [pairWord 0x2#4 p 1#1]
  | .wrm => [0xE0#8]
  | .wmp => [0xE1#8]
  | .wrr => [0xE2#8]
  | .wpm => [0xE3#8]
  | .wr0 => [0xE4#8]
  | .wr1 => [0xE5#8]
  | .wr2 => [0xE6#8]
  | .wr3 => [0xE7#8]
  | .sbm => [0xE8#8]
  | .rdm => [0xE9#8]
  | .rdr => [0xEA#8]
  | .adm => [0xEB#8]
  | .rd0 => [0xEC#8]
  | .rd1 => [0xED#8]
  | .rd2 => [0xEE#8]
  | .rd3 => [0xEF#8]

/-- The length of an instruction in words (R90). -/
def Instr.words : Instr → Nat
  | .jcn _ _ | .fim _ _ | .jun _ | .jms _ | .isz _ _ => 2
  | .nop | .fin _ | .jin _ | .inc _ | .add _ | .sub _ | .ld _ | .xch _ | .bbl _ | .ldm _ => 1
  | .clb | .clc | .iac | .cmc | .cma | .ral | .rar | .tcc | .dac | .tcs | .stc | .daa | .kbp | .dcl => 1
  | .hlt | .bbs | .lcr | .or4 | .or5 | .an6 | .an7 | .db0 | .db1 | .sb0 | .sb1 | .ein | .din | .rpm => 1
  | .src _ | .wrm | .wmp | .wrr | .wpm | .wr0 | .wr1 | .wr2 | .wr3 | .sbm | .rdm | .rdr | .adm | .rd0 | .rd1
  | .rd2 | .rd3 => 1

/-- The two words of an instruction numbered as spec/opcode_table.json numbers its bits: the first word is bits 7..0, the
second word bits 15..8; the bits from nbits up are 0. -/
def tableWords (nbits w : Nat) : List Byte :=
  let v := w % 2 ^ nbits
  [BitVec.ofNat 8 v, BitVec.ofNat 8 (v / 256)]

/-- The instruction the decoder reads from such a number, none where it rejects. -/
def decodeTableWord (nbits w : Nat) : Option Instr :=
  match decode (tableWords nbits w) with
  | .ok (i, _) => some i
  | .error _ => none

end Sys2Proof
end

