-- ==== Sys2Proof/Machine/Fetch.lean ====
section
/-! DEFINITION. All of a step but the instruction's meaning (spec/60_exceptions.md R281): the environment's moves, the interrupt,
the halt, the bank switch, the fetch of the words and their decoding. -/

namespace Sys2Proof.Machine

/-- What a step comes to before any instruction executes. -/
inductive Begun where
  /-- No instruction executes: an interrupt was entered or the processor is halted. -/
  | quiet (s : State)
  /-- The instruction fetched, and the state it executes in. -/
  | run (i : Instr) (s : State)
  | fault (r : Fault)

/-- Fetch and decode at PC (R61, R90, R99, R281): bankUpdate before each word, IllegalInstruction before a second word. -/
def fetchDecode (s : State) : Begun :=
  let s1 := bankUpdate s
  match progWord s1 (romBank s1) s.pc .fetch1Upper .fetch1Lower with
  | none => .fault (.noProgramMemory s.pc (romBank s1) s.pc)
  | some w =>
    let f := decodeFirst w
    if f.twoWords then
      let s2 := bankUpdate s1
      match progWord s2 (romBank s2) (nextAddr s 1) .fetch2Upper .fetch2Lower with
      | none => .fault (.noProgramMemory s.pc (romBank s2) (nextAddr s 1))
      | some w2 =>
        match f.complete w2 with
        | some i => .run i s2
        | none => .fault (.illegalInstruction s.pc w)
    else
      match f.complete 0#8 with
      | some i => .run i s1
      | none => .fault (.illegalInstruction s.pc w)

/-- A halted processor in a step without an interrupt entry (R288). -/
def haltedStep (s : State) : State := if haltEndsQuietly s then s.setHalted false else s

/-- The step up to the instruction's meaning (R281, R285, R286, R288). -/
def beginStep (s : State) : Begun :=
  let t := environmentMoves s
  if interruptRecognised t then
    match interruptEntry t with
    | .next u => .quiet u
    | .fault r => .fault r
    | .refused _ => .quiet t
  else if isHalted t then .quiet (haltedStep t)
  else fetchDecode t

/-- A word of program put where a fetch reads it: in true ROM, or both halves of program RAM. -/
def placeWord (m : Memory) (p : Platform) (rb : Bit) (a : Addr) (w : Byte) : Memory :=
  if isProgRam p rb a then
    { m with pram := writeCell (writeCell m.pram (halfKey rb a .first) (upper w)) (halfKey rb a .second) (lower w) }
  else { m with rom := writeCell m.rom (progKey rb a) w }

/-- The two words put where the next step fetches its first and second word (R61, R177). -/
def placeAtFetch (s : State) (w1 w2 : Byte) : Memory :=
  let s1 := bankUpdate s
  let s2 := bankUpdate s1
  let a2 := nextAddr s 1
  placeWord (placeWord s.mem s.plat (romBank s2) a2 w2) s.plat (romBank s1) s.pc w1

end Sys2Proof.Machine
end

