-- ==== Sys2Proof/Machine/Step.lean ====
section
/-! DEFINITION. One step of the machine (spec/60_exceptions.md R281), and the placing of an instruction where the next step
fetches. A program is loaded from outside before a run (R312; log 32). -/

namespace Sys2Proof.Machine

/-- One step (R281): what Machine/Fetch.lean begins, exec of the instruction fetched, then the clock. -/
def step (s : State) : Host.Outcome State Fault Refusal :=
  match beginStep s with
  | .quiet t => .next (tick t)
  | .fault r => .fault r
  | .run i t => onNext (exec i t) tick

/-- The instruction whose bits are `w`, its words stored where step fetches next: at PC and PC + 1, in the ROM bank that each
word's fetch will use. -/
def State.withFetchWord (s : State) (nbits w : Nat) : State :=
  match tableWords nbits w with
  | w1 :: w2 :: _ => s.setMem (placeAtFetch s w1 w2)
  | _ => s

end Sys2Proof.Machine
end

