-- ==== Sys2Proof/Safety.lean ====
section
/-! DEFINITION. What counts as a safe step and when a run has ended (spec/70_reset_and_hazards.md R318), and runs of the machine; then the
terms in which claims are stated, and the invariant of the machine. -/

namespace Sys2Proof.Machine

/-- A step that neither faults nor is refused. -/
def completes (o : Host.Outcome State Fault Refusal) : Bool :=
  match o with
  | .next _ => true
  | .fault _ => false
  | .refused _ => false

/-- The step from `s` takes a next state. -/
def safeStep (s : State) : Bool := completes (step s)

/-- Run n steps (R318), stopping at the first fault or refusal. -/
def run (n : Nat) (s : State) : Host.Outcome State Fault Refusal :=
  match n with
  | 0 => .next s
  | k + 1 =>
    match step s with
    | .next t => run k t
    | .fault r => .fault r
    | .refused r => .refused r

/-- End (a) of a run (R318): if the step from `s` executes a JUN to its own address, the state in which it does. That is the state
after the fetch of the JUN, in which the JUN changes nothing; a ROM bank switch that the fetch completes is done in it, as in P7 of
spec/95_test_vectors.md (DESIGN CHOICE, log 44). -/
def selfJumpState (s : State) : Option State :=
  match beginStep s with
  | .run (.jun a) t => if a = t.pc then some t else none
  | .run _ _ => none
  | .quiet _ => none
  | .fault _ => none

/-- The step from `s` executes a JUN to its own address: end (a) of a run (R318). -/
def atSelfJump (s : State) : Bool := (selfJumpState s).isSome

/-- The request input as the top of the step from `s` looks at it (R281, R285). -/
def requestNow (s : State) : Bool := intIn (environmentMoves s)

/-- The environment never asserts the interrupt input again: in no step from `s` on, as far as the run goes. -/
def NeverRequested (s : State) : Prop := ∀ n t, run n s = .next t → requestNow t = false

/-- End (b) of a run (R318): the processor is halted and the environment never asserts the interrupt input again. -/
def EndedInHalt (s : State) : Prop := isHalted s = true ∧ NeverRequested s

/-- The three ends of a run (R318): (a) at a JUN to its own address, (b) in a halt for good, (c) in a stop, with the end state of
(a) and of (b). -/
inductive RunEnd where
  | selfJump (s : State)
  | halt (s : State)
  | stopped (o : Host.Outcome State Fault Refusal)

/-- `t` is reached after n steps, and no state before it was an end (a) or (b). -/
def ReachedFirst (s : State) (n : Nat) (t : State) : Prop :=
  run n s = .next t ∧ ∀ m < n, ∀ u, run m s = .next u → atSelfJump u = false ∧ ¬ EndedInHalt u

/-- The run from `s` has ended after n steps, by the first of (a), (b), (c) of R318; the end state of (a) is selfJumpState's (log 44),
and the JUN itself is not among the n steps. -/
def EndsAfter (s : State) (n : Nat) : RunEnd → Prop
  | .selfJump t => ∃ u, ReachedFirst s n u ∧ selfJumpState u = some t
  | .halt t => ReachedFirst s n t ∧ EndedInHalt t
  | .stopped o => ∃ t, ReachedFirst s n t ∧ atSelfJump t = false ∧ ¬ EndedInHalt t ∧ step t = o ∧ completes o = false

/-- What at most `fuel` steps show of a run. -/
inductive RunReport where
  /-- End (a), with its end state. -/
  | selfJump (s : State)
  /-- End (c). -/
  | stopped (o : Host.Outcome State Fault Refusal)
  /-- Halted after all steps with no request in the step to come. It is end (b) just if none ever comes (EndedInHalt), which no
  number of steps shows. -/
  | waiting (s : State)
  /-- None of these. -/
  | running (s : State)

/-- Run until (a) or (c) of R318, at most `fuel` steps, and say whether the processor then waits in a halt, as for (b). -/
def runUntilEnd (fuel : Nat) (s : State) : RunReport :=
  match selfJumpState s with
  | some t => .selfJump t
  | none =>
    match fuel with
    | 0 => if isHalted s && !requestNow s then .waiting s else .running s
    | k + 1 =>
      match step s with
      | .next t => runUntilEnd k t
      | .fault r => .stopped (.fault r)
      | .refused r => .stopped (.refused r)

/-! ### The terms of the claims -/

/-- A register as it stands under SB = b, whatever bank is selected (R29): every one of the 24 registers is one of these. -/
def regUnder (s : State) (b : Bit) (r : Nibble) : Nibble :=
  if r.getLsbD 3 then look (w := 3) s.ir.common (regSlot r)
  else if b = 0#1 then look (w := 3) s.ir.bank0 (regSlot r)
  else look (w := 3) s.ir.bank1 (regSlot r)

/-- Every register but those of `written` reads in `t` as in `s`: the ones in view, and the eight of the bank out of view. -/
def RegsKept (written : Nibble → Prop) (s t : State) : Prop :=
  ∀ b r, (¬ written r ∨ (r.getLsbD 3 = false ∧ b ≠ irBank s)) → regUnder t b r = regUnder s b r

/-- The latch of the data RAM bank that CR designates (R66). -/
abbrev selNow (s : State) : Option Byte := look (w := 3) s.sel (bankOf s.cr)

/-- The 4269 of the data RAM bank that CR designates. -/
abbrev kdNow (s : State) : Kd4269 := look (w := 3) s.kd (bankOf s.cr)

/-- A RAM-side instruction now goes, with selection `a`, to `target` (R66, R191). -/
abbrev Selected (s : State) (a : Byte) (target : Target) : Prop :=
  selNow s = some a ∧ targetOf s (bankOf s.cr) a = target

/-- The instruction of a write code (R95). -/
def WriteOp.instr : WriteOp → Instr
  | .wrm => .wrm
  | .wmp => .wmp
  | .wr0 => .wr0
  | .wr1 => .wr1
  | .wr2 => .wr2
  | .wr3 => .wr3

/-- The instruction of a read code (R95). -/
def ReadOp.instr : ReadOp → Instr
  | .sbm => .sbm
  | .rdm => .rdm
  | .adm => .adm
  | .rd0 => .rd0
  | .rd1 => .rd1
  | .rd2 => .rd2
  | .rd3 => .rd3

/-- What the processor does with the four bits `m` that a read code receives (R210, R202, R205). -/
def receive (op : ReadOp) (m : Nibble) (s : State) : State :=
  match op with
  | .sbm => { s with acc := (sub4 s.acc m s.cy).1, cy := (sub4 s.acc m s.cy).2, pc := s.pc + 1#12 }
  | .adm => { s with acc := (add4 m s.acc s.cy).1, cy := (add4 m s.acc s.cy).2, pc := s.pc + 1#12 }
  | .rdm | .rd0 | .rd1 | .rd2 | .rd3 => { s with acc := m, pc := s.pc + 1#12 }

/-- What no step breaks, on any platform: the canonical form of the memories (R60); the depth of the stack (R25, R146); the
count of a pending ROM bank switch (R177); a 4004 has none of the 4040's state (R28 to R33); the FIFO of a 4269 within its depth
(R224); where the 4265s do not start enabled, their ports enabled only once they have a mode (R253). -/
structure State.Inv (s : State) : Prop where
  memory : s.mem.wf
  depth : s.plat.stackWrap = false → s.stack.levels.length ≤ s.plat.stackDepth
  rings : s.stack.ar.length = s.plat.stackDepth + 1
  pointer : s.stack.sp ≤ s.plat.stackDepth
  pending : s.bank.count ≤ s.plat.romBankDelay
  only4040 : s.plat.cpu = .c4004 → s.bank = { rb := 0#1, next := 0#1, count := 0 } ∧ s.sb = 0#1 ∧ s.ie = false ∧
    s.inService = false ∧ s.halted = false ∧ s.srcReg = none
  fifos : ∀ b : BankNo, (look (w := 3) s.kd b).fifo.length ≤ s.plat.fifoDepth
  ports : s.plat.enabled4265 = false → ∀ (b : BankNo) (high : Bit), (ioAt s b high).enabled = true → (ioAt s b high).mode ≠ none

end Sys2Proof.Machine
end

