-- ==== Sys2Proof/WellFormed.lean ====
section
/-! DEFINITION. When an instruction is well formed. Every value of every operand field is legal (spec/30_encoding.md R99) and
the operand types hold exactly those values, so the one check left is the card's: "4040 only instruction—cannot be executed by
4004" (error X, R103; R2, R185). The range checks of an assembler's source text are in Machine/Assembler.lean. -/

namespace Sys2Proof

/-- The fourteen instructions under the card's heading "4040 ONLY INSTRUCTIONS" (R2, R94). -/
def Instr.only4040 : Instr → Bool
  | .hlt | .bbs | .lcr | .or4 | .or5 | .an6 | .an7 | .db0 | .db1 | .sb0 | .sb1 | .ein | .din | .rpm => true
  | .nop | .jcn _ _ | .fim _ _ | .fin _ | .jin _ | .jun _ | .jms _ | .inc _ | .isz _ _ | .add _ | .sub _ | .ld _
  | .xch _ | .bbl _ | .ldm _ => false
  | .clb | .clc | .iac | .cmc | .cma | .ral | .rar | .tcc | .dac | .tcs | .stc | .daa | .kbp | .dcl => false
  | .src _ | .wrm | .wmp | .wrr | .wpm | .wr0 | .wr1 | .wr2 | .wr3 | .sbm | .rdm | .rdr | .adm | .rd0 | .rd1
  | .rd2 | .rd3 => false

/-- An instruction that the processor of the run executes (R2, R185). -/
def Instr.WellFormed (cpu : Cpu) (i : Instr) : Bool :=
  match cpu with
  | .c4040 => true
  | .c4004 => !i.only4040

end Sys2Proof
end

