-- ==== Sys2Proof/Certificates/Slice0/Obligations.lean ====
section
/-! DEFINITION. The statements for the provers. Each docstring names the rules of spec/ it formalises; "rests on" names what the
spec itself marks as its own inference or decision, or the log entry (notes/assumptions/) of the model's own choice. -/

section
open Sys2Proof Sys2Proof.Machine

/-! ### Encoding -/

/-- R90 to R95, R99: decoding an encoded instruction gives it back, with every operand at every value, and leaves the words after
it alone. -/
def Obligations.DecodeOfEncode : Prop :=
  ∀ (i : Instr) (rest : List Byte), decode (encode i ++ rest) = .ok (i, rest)

/-- R90 to R95, R99: each word has one meaning: what is decoded encodes to the very words that were read. -/
def Obligations.EncodeOfDecode : Prop :=
  ∀ (ws rest : List Byte) (i : Instr), decode ws = .ok (i, rest) → ws = encode i ++ rest

/-- R90: the length is decided by the first word alone, five instructions are two words long, and the processor decides only which
of the codes 01 to 0E execute. -/
def Obligations.LengthByFirstWord : Prop :=
  (∀ (w : Byte) (rest rest' : List Byte) (i : Instr), decode (w :: rest) = .ok (i, rest') →
    ((w.extractLsb' 4 4 = 1#4 ∨ w.extractLsb' 4 4 = 4#4 ∨ w.extractLsb' 4 4 = 5#4 ∨ w.extractLsb' 4 4 = 7#4 ∨
        (w.extractLsb' 4 4 = 2#4 ∧ w.getLsbD 0 = false)) → ∃ w2, rest = w2 :: rest') ∧
    (¬ (w.extractLsb' 4 4 = 1#4 ∨ w.extractLsb' 4 4 = 4#4 ∨ w.extractLsb' 4 4 = 5#4 ∨ w.extractLsb' 4 4 = 7#4 ∨
        (w.extractLsb' 4 4 = 2#4 ∧ w.getLsbD 0 = false)) → rest = rest')) ∧
  (∀ i : Instr, (encode i).length = 2 ↔
    ((∃ c a, i = .jcn c a) ∨ (∃ p d, i = .fim p d) ∨ (∃ a, i = .jun a) ∨ (∃ a, i = .jms a) ∨ ∃ r a, i = .isz r a)) ∧
  (∀ i : Instr, (encode i).length = 1 ∨ (encode i).length = 2) ∧
  ∀ i : Instr, i.WellFormed .c4040 = true ∧
    (i.WellFormed .c4004 = false ↔ ∃ w : Byte, encode i = [w] ∧ 0x01 ≤ w.toNat ∧ w.toNat ≤ 0x0E)

/-- R70, R96, R99, R280: the first words 0F, FE and FF, and no others, have no row; and what stops a step before an instruction
executes: no program memory for the first word, a first word without a row (before a second is looked at), no program memory for
the second word. Rests on D18, D25. -/
def Obligations.FetchStops : Prop :=
  (∀ (w w2 : Byte) (rest : List Byte),
    (decode (w :: w2 :: rest) = .error (.noRow w)) ↔ (w = 0x0F#8 ∨ w = 0xFE#8 ∨ w = 0xFF#8)) ∧
  ∀ (s u : State), u = bankUpdate (environmentMoves s) →
    interruptRecognised (environmentMoves s) = false → isHalted (environmentMoves s) = false →
    (isProgRam s.plat (romBank u) s.pc = false → readCell s.mem.rom (progKey (romBank u) s.pc) = none →
      step s = .fault (.noProgramMemory s.pc (romBank u) s.pc)) ∧
    ∀ w : Byte, progWord u (romBank u) s.pc .fetch1Upper .fetch1Lower = some w →
      ((w = 0x0F#8 ∨ w = 0xFE#8 ∨ w = 0xFF#8) → step s = .fault (.illegalInstruction s.pc w)) ∧
      ((decodeFirst w).twoWords = true → isProgRam s.plat (romBank (bankUpdate u)) (s.pc + 1#12) = false →
        readCell s.mem.rom (progKey (romBank (bankUpdate u)) (s.pc + 1#12)) = none →
        step s = .fault (.noProgramMemory s.pc (romBank (bankUpdate u)) (s.pc + 1#12)))

/-- R93 to R95, opcode_table.json: a few words written out from the encodings. -/
def Obligations.WordsOfTheCard : Prop :=
  decode [0b00000000#8] = .ok (.nop, []) ∧
  decode [0b00011010#8, 0b01011100#8] = .ok (.jcn 0b1010#4 0x5C#8, []) ∧
  decode [0b00100110#8, 0b11000011#8] = .ok (.fim 3#3 0xC3#8, []) ∧
  decode [0b00100111#8] = .ok (.src 3#3, []) ∧
  decode [0b00111010#8] = .ok (.fin 5#3, []) ∧
  decode [0b00111011#8] = .ok (.jin 5#3, []) ∧
  decode [0b01000010#8, 0b01011010#8] = .ok (.jun 0x25A#12, []) ∧
  decode [0b01011110#8, 0b00000001#8] = .ok (.jms 0xE01#12, []) ∧
  decode [0b01111001#8, 0b10000000#8] = .ok (.isz 9#4 0x80#8, []) ∧
  decode [0b10010010#8] = .ok (.sub 2#4, []) ∧
  decode [0b11010111#8] = .ok (.ldm 7#4, []) ∧
  decode [0b00001110#8] = .ok (.rpm, []) ∧
  decode [0b11100100#8] = .ok (.wr0, []) ∧
  decode [0b11110101#8] = .ok (.ral, [])

/-! ### The step -/

/-- R281, R61, R177: when no interrupt is recognised and the processor is not halted, and the words that the fetches read decode to
i, the step is exec of i on the state after the fetches, then the end of the step (tick). Rests on D31 and log 31. -/
def Obligations.StepRunsDecoded : Prop :=
  ∀ (s : State) (w1 w2 : Byte) (i : Instr),
    interruptRecognised (environmentMoves s) = false → isHalted (environmentMoves s) = false →
    progWord (bankUpdate (environmentMoves s)) (romBank (bankUpdate (environmentMoves s))) s.pc .fetch1Upper .fetch1Lower =
      some w1 →
    (decode [w1] = .ok (i, []) → step s = onNext (exec i (bankUpdate (environmentMoves s))) tick) ∧
    (progWord (bankUpdate (bankUpdate (environmentMoves s))) (romBank (bankUpdate (bankUpdate (environmentMoves s))))
        (s.pc + 1#12) .fetch2Upper .fetch2Lower = some w2 →
      decode [w1, w2] = .ok (i, []) → step s = onNext (exec i (bankUpdate (bankUpdate (environmentMoves s)))) tick)

/-! ### Machine instructions -/

/-- R130, R15: NOP, its word, that program memory of zeros executes as NOPs, and next(a) modulo 4096. Rests on D6 (the modulo). -/
def Obligations.NopOnlyAdvances : Prop :=
  encode .nop = [0x00#8] ∧ (∀ rest, decode (0x00#8 :: rest) = .ok (.nop, rest)) ∧
    ∀ s : State, exec .nop s = .next { s with pc := s.pc + 1#12 } ∧ (s.pc + 1#12).toNat = (s.pc.toNat + 1) % 4096 ∧
      nextAddr s 1 = s.pc + 1#12 ∧ nextAddr s 2 = s.pc + 2#12

/-- R141, R144: LD and LDM, their words, their result and their frame. nextAddr is next(a), which NopOnlyAdvances states. -/
def Obligations.LoadsIntoAcc : Prop :=
  (∀ r : Nibble, encode (.ld r) = [0xA#4 ++ r]) ∧ (∀ d : Nibble, encode (.ldm d) = [0xD#4 ++ d]) ∧
    ∀ (r d : Nibble) (s : State),
      exec (.ld r) s = .next { s with acc := reg s r, pc := nextAddr s 1 } ∧
      exec (.ldm d) s = .next { s with acc := d, pc := nextAddr s 1 }

/-- R135: JUN, its words, its target, and that JUN to its own address changes no state. -/
def Obligations.JunJumps : Prop :=
  (∀ a : Addr, encode (.jun a) = [0x4#4 ++ a.extractLsb' 8 4, a.extractLsb' 0 8]) ∧
    (∀ (a : Addr) (s : State), exec (.jun a) s = .next { s with pc := a }) ∧
    ∀ s : State, exec (.jun s.pc) s = .next s

/-- R142, R22, R29: XCH exchanges, for every register and either bank, and changes no other register. Rests on D7. -/
def Obligations.XchExchanges : Prop :=
  ∀ (r : Nibble) (s : State), ∃ t, exec (.xch r) s = .next t ∧ t.acc = reg s r ∧ reg t r = s.acc ∧
    RegsKept (· = r) s t ∧ t = { s with acc := t.acc, ir := t.ir, pc := s.pc + 1#12 }

/-- R137, R138, R145: INC and ISZ, the increment modulo 16, the jump while the result is not 0, and the frame. Rests on R148 (carry
unchanged) and D4 (the page). -/
def Obligations.IncAndIsz : Prop :=
  ∀ (r : Nibble) (a : Byte) (s : State),
    (∃ t, exec (.inc r) s = .next t ∧ (reg t r).toNat = ((reg s r).toNat + 1) % 16 ∧ RegsKept (· = r) s t ∧
      t = { s with ir := t.ir, pc := s.pc + 1#12 }) ∧
    (∃ t, exec (.isz r a) s = .next t ∧ (reg t r).toNat = ((reg s r).toNat + 1) % 16 ∧ RegsKept (· = r) s t ∧
      t = { s with ir := t.ir
                   pc := if reg s r = 15#4 then s.pc + 2#12 else (s.pc + 2#12).extractLsb' 8 4 ++ a })

/-- R139, R140, R149, R202, R205: ADD and SUB, and ADM and SBM with the four bits m they receive, as equations of natural numbers: the
carry out is the bit lost, or says no borrow; with the frame of ADD and SUB. Rests on R149 (the sense of the carry of a
subtraction). -/
def Obligations.AddAndSubExact : Prop :=
  ∀ (r m : Nibble) (s : State),
    (∃ t, exec (.add r) s = .next t ∧
      t.acc.toNat + 16 * t.cy.toNat = s.acc.toNat + (reg s r).toNat + s.cy.toNat ∧
      t = { s with acc := t.acc, cy := t.cy, pc := s.pc + 1#12 }) ∧
    (∃ t, exec (.sub r) s = .next t ∧
      t.acc.toNat + 16 * t.cy.toNat + (reg s r).toNat + s.cy.toNat = s.acc.toNat + 16 ∧
      (t.cy = 1#1 ↔ (reg s r).toNat + s.cy.toNat ≤ s.acc.toNat) ∧
      t = { s with acc := t.acc, cy := t.cy, pc := s.pc + 1#12 }) ∧
    (receive .adm m s).acc.toNat + 16 * (receive .adm m s).cy.toNat = m.toNat + s.acc.toNat + s.cy.toNat ∧
    (receive .sbm m s).acc.toNat + 16 * (receive .sbm m s).cy.toNat + m.toNat + s.cy.toNat = s.acc.toNat + 16 ∧
    ((receive .sbm m s).cy = 1#1 ↔ m.toNat + s.cy.toNat ≤ s.acc.toNat)

/-- R131, the card's table: JCN jumps exactly in the rows that the sixteen conditions name, into the page of next(a), and changes
nothing else. Rests on D4 (the page) and log 8 (the Test level). -/
def Obligations.JcnConditionTable : Prop :=
  ∀ (c : Nibble) (a : Byte) (s : State),
    exec (.jcn c a) s = .next (if
      [false,
        decide (testIn s = 0#1),
        decide (s.cy = 1#1),
        decide (testIn s = 0#1 ∨ s.cy = 1#1),
        decide (s.acc = 0#4),
        decide (s.acc = 0#4 ∨ testIn s = 0#1),
        decide (s.acc = 0#4 ∨ s.cy = 1#1),
        decide (s.acc = 0#4 ∨ s.cy = 1#1 ∨ testIn s = 0#1),
        true,
        decide (testIn s = 1#1),
        decide (s.cy = 0#1),
        decide (testIn s = 1#1 ∧ s.cy = 0#1),
        decide (s.acc ≠ 0#4),
        decide (s.acc ≠ 0#4 ∧ testIn s = 1#1),
        decide (s.acc ≠ 0#4 ∧ s.cy = 0#1),
        decide (s.acc ≠ 0#4 ∧ s.cy = 0#1 ∧ testIn s = 1#1)][c.toNat]? = some true
      then { s with pc := (s.pc + 2#12).extractLsb' 8 4 ++ a } else { s with pc := s.pc + 2#12 })

/-- R132, R133, R62, R77: FIM and FIN load the upper half into the even register and the lower half into the odd one, and no other
register changes; FIN reads the word that the old content of pair 0 names in the page of next(a), and stops where there is none.
Rests on R23, D5 (FIN's page), D25. -/
def Obligations.PairLoads : Prop :=
  ∀ (p : PairNo) (d : Byte) (s : State),
    (∃ t, exec (.fim p d) s = .next t ∧ reg t (p ++ 0#1) = d.extractLsb' 4 4 ∧ reg t (p ++ 1#1) = d.extractLsb' 0 4 ∧
      RegsKept (fun r => r = p ++ 0#1 ∨ r = p ++ 1#1) s t ∧ t = { s with ir := t.ir, pc := s.pc + 2#12 }) ∧
    (progWord s (romBank s) ((s.pc + 1#12).extractLsb' 8 4 ++ (reg s 0#4 ++ reg s 1#4)) .finUpper .finLower = some d →
      ∃ t, exec (.fin p) s = .next t ∧ reg t (p ++ 0#1) = d.extractLsb' 4 4 ∧ reg t (p ++ 1#1) = d.extractLsb' 0 4 ∧
        RegsKept (fun r => r = p ++ 0#1 ∨ r = p ++ 1#1) s t ∧ t = { s with ir := t.ir, pc := s.pc + 1#12 }) ∧
    (progWord s (romBank s) ((s.pc + 1#12).extractLsb' 8 4 ++ (reg s 0#4 ++ reg s 1#4)) .finUpper .finLower = none →
      exec (.fin p) s = .fault (.noProgramMemory s.pc (romBank s)
        ((s.pc + 1#12).extractLsb' 8 4 ++ (reg s 0#4 ++ reg s 1#4))))

/-- R134, R145: JIN replaces the low eight bits by the pair; the page is its own up to offset FE and the next one at offset FF.
Rests on D5. -/
def Obligations.JinWithinPage : Prop :=
  ∀ (p : PairNo) (s : State),
    ((s.pc.extractLsb' 0 8).toNat ≤ 0xFE →
      exec (.jin p) s = .next { s with pc := s.pc.extractLsb' 8 4 ++ (reg s (p ++ 0#1) ++ reg s (p ++ 1#1)) }) ∧
    ((s.pc.extractLsb' 0 8).toNat = 0xFF →
      exec (.jin p) s = .next { s with pc := (s.pc.extractLsb' 8 4 + 1#4) ++ (reg s (p ++ 0#1) ++ reg s (p ++ 1#1)) })

/-- R136, R143, R146, R147, the stack as a list (STACK_WRAP false): JMS pushes next(a) and stops on a full stack, BBL pops and loads
and stops on an empty one. Rests on D2, D3. -/
def Obligations.CallAndReturnOnList : Prop :=
  ∀ (a : Addr) (d : Nibble) (s : State), s.plat.stackWrap = false →
    (s.stack.levels.length < s.plat.stackDepth →
      exec (.jms a) s = .next { s with pc := a, stack := { s.stack with levels := s.stack.levels ++ [s.pc + 2#12] } }) ∧
    (s.plat.stackDepth ≤ s.stack.levels.length → exec (.jms a) s = .fault (.stackOverflow s.pc)) ∧
    (∀ (l : List Addr) (v : Addr), s.stack.levels = l ++ [v] →
      exec (.bbl d) s = .next { s with pc := v, acc := d, stack := { s.stack with levels := l } }) ∧
    (s.stack.levels = [] → exec (.bbl d) s = .fault (.stackUnderflow s.pc))

/-- R146, R147, the circular stack (STACK_WRAP true): JMS and BBL never stop; the pointer moves modulo STACK_DEPTH + 1. Rests on the
spec's general knowledge and log 15. -/
def Obligations.CallAndReturnOnRing : Prop :=
  ∀ (a : Addr) (d : Nibble) (s : State), s.plat.stackWrap = true → s.stack.ar.length = s.plat.stackDepth + 1 →
    s.stack.sp ≤ s.plat.stackDepth →
    (∃ t, exec (.jms a) s = .next t ∧ t.pc = a ∧ t.stack.ar[s.stack.sp]? = some (s.pc + 2#12) ∧
      (∀ k, k ≠ s.stack.sp → t.stack.ar[k]? = s.stack.ar[k]?) ∧
      t.stack.sp = (if s.stack.sp = s.plat.stackDepth then 0 else s.stack.sp + 1) ∧
      t = { s with pc := a, stack := { s.stack with ar := t.stack.ar, sp := t.stack.sp } }) ∧
    (∃ t, exec (.bbl d) s = .next t ∧ t.acc = d ∧
      t.stack.sp = (if s.stack.sp = 0 then s.plat.stackDepth else s.stack.sp - 1) ∧
      (t.stack.sp ≠ s.stack.sp → s.stack.ar[t.stack.sp]? = some t.pc) ∧
      (t.stack.sp = s.stack.sp → t.pc = s.pc) ∧
      (∀ k, k ≠ s.stack.sp → t.stack.ar[k]? = s.stack.ar[k]?) ∧
      t = { s with pc := t.pc, acc := d, stack := { s.stack with ar := t.stack.ar, sp := t.stack.sp } })

/-- R136, R143: after a JMS, whatever the subroutine does that keeps the stack, a BBL resumes at the instruction after the JMS with
the stack as before. Rests on R136 (which address is saved). -/
def Obligations.BblResumesAfterJms : Prop :=
  ∀ (a : Addr) (d : Nibble) (s t u : State), s.Inv → exec (.jms a) s = .next t → u.stack = t.stack → u.plat = s.plat →
    0 < s.plat.stackDepth →
    ∃ v, exec (.bbl d) u = .next v ∧ v.pc = s.pc + 2#12 ∧ v.acc = d ∧ v.stack.levels = s.stack.levels ∧
      v.stack.sp = s.stack.sp ∧ v = { u with pc := v.pc, acc := d, stack := v.stack }

/-! ### Accumulator group -/

/-- R150, R151, R153, R154, R160: CLB, CLC, CMC, CMA, STC, their words, results and frames. nextAddr is next(a), which
NopOnlyAdvances states. -/
def Obligations.ClearSetComplement : Prop :=
  encode .clb = [0xF0#8] ∧ encode .clc = [0xF1#8] ∧ encode .cmc = [0xF3#8] ∧ encode .cma = [0xF4#8] ∧ encode .stc = [0xFA#8] ∧
    ∀ s : State,
      exec .clb s = .next { s with acc := 0#4, cy := 0#1, pc := nextAddr s 1 } ∧
      exec .clc s = .next { s with cy := 0#1, pc := nextAddr s 1 } ∧
      exec .stc s = .next { s with cy := 1#1, pc := nextAddr s 1 } ∧
      (∃ t, exec .cmc s = .next t ∧ t.cy.toNat = 1 - s.cy.toNat ∧ t = { s with cy := t.cy, pc := nextAddr s 1 }) ∧
      (∃ t, exec .cma s = .next t ∧ t.acc.toNat = 15 - s.acc.toNat ∧ (∀ k < 4, t.acc.getLsbD k = !s.acc.getLsbD k) ∧
        t = { s with acc := t.acc, pc := nextAddr s 1 })

/-- R152, R157 to R159: IAC, DAC, TCC and TCS with the carry they leave; IAC and DAC do not use the old carry. Rests on the spec's
general knowledge (the carry of IAC and DAC, the upper bits of TCC, the constants 9 and 10 of TCS). -/
def Obligations.CountAndTransmitCarry : Prop :=
  ∀ s : State,
    (∃ t, exec .iac s = .next t ∧ t.acc.toNat = (s.acc.toNat + 1) % 16 ∧ (t.cy = 1#1 ↔ s.acc = 15#4) ∧
      t = { s with acc := t.acc, cy := t.cy, pc := s.pc + 1#12 }) ∧
    (∃ t, exec .dac s = .next t ∧ (t.acc.toNat + 1) % 16 = s.acc.toNat ∧ (t.cy = 0#1 ↔ s.acc = 0#4) ∧
      t = { s with acc := t.acc, cy := t.cy, pc := s.pc + 1#12 }) ∧
    (∃ t, exec .tcc s = .next t ∧ t.acc.toNat = s.cy.toNat ∧ t = { s with acc := t.acc, cy := 0#1, pc := s.pc + 1#12 }) ∧
    (∃ t, exec .tcs s = .next t ∧ t.acc.toNat = 9 + s.cy.toNat ∧ t = { s with acc := t.acc, cy := 0#1, pc := s.pc + 1#12 })

/-- R155, R156: RAL and RAR rotate the 5-bit ring CY ++ ACC by one place, and RAR undoes RAL. Rests on the spec's general knowledge
(the direction). -/
def Obligations.RotatesOfTheRing : Prop :=
  ∀ s : State, ∃ t u v,
    exec .ral s = .next t ∧ t.cy ++ t.acc = (s.cy ++ s.acc).rotateLeft 1 ∧
      t = { s with acc := t.acc, cy := t.cy, pc := s.pc + 1#12 } ∧
    exec .rar s = .next u ∧ u.cy ++ u.acc = (s.cy ++ s.acc).rotateRight 1 ∧
      u = { s with acc := u.acc, cy := u.cy, pc := s.pc + 1#12 } ∧
    exec .rar t = .next v ∧ v = { s with pc := s.pc + 2#12 }

/-- R161: DAA, for all 32 values of ACC and CY. Rests on the spec's general knowledge (the whole definition). -/
def Obligations.DaaAdjusts : Prop :=
  ∀ s : State, ∃ t, exec .daa s = .next t ∧
    (s.acc.toNat ≤ 9 ∧ s.cy = 0#1 → t.acc = s.acc ∧ t.cy = 0#1) ∧
    (s.acc.toNat ≤ 9 ∧ s.cy = 1#1 → t.acc.toNat = s.acc.toNat + 6 ∧ t.cy = 1#1) ∧
    (10 ≤ s.acc.toNat → t.acc.toNat = s.acc.toNat - 10 ∧ t.cy = 1#1) ∧
    t = { s with acc := t.acc, cy := t.cy, pc := s.pc + 1#12 }

/-- R164, R161, R139: ADD of two decimal digits and then DAA give the decimal digit of the sum and the decimal carry. Rests on
R164, which the spec derives. -/
def Obligations.DecimalAddition : Prop :=
  ∀ (r : Nibble) (s : State), s.acc.toNat ≤ 9 → (reg s r).toNat ≤ 9 →
    ∃ t u, exec (.add r) s = .next t ∧ exec .daa t = .next u ∧ u.acc.toNat ≤ 9 ∧
      10 * u.cy.toNat + u.acc.toNat = s.acc.toNat + (reg s r).toNat + s.cy.toNat ∧
      u = { s with acc := u.acc, cy := u.cy, pc := s.pc + 2#12 }

/-- R162: KBP gives 0 for no bit, the bit's position counted from 1 for one bit, 15 for more than one. Rests on the spec's general
knowledge (the 15). -/
def Obligations.KbpEncodes : Prop :=
  ∀ s : State, ∃ t, exec .kbp s = .next t ∧
    (s.acc = 0#4 → t.acc = 0#4) ∧
    (∀ k < 4, s.acc.toNat = 2 ^ k → t.acc.toNat = k + 1) ∧
    ((∃ j k, j < k ∧ s.acc.getLsbD j = true ∧ s.acc.getLsbD k = true) → t.acc = 15#4) ∧
    t = { s with acc := t.acc, pc := s.pc + 1#12 }

/-- R163, R172: DCL loads CR from ACC[2:0]; LCR reads back the ROM bank in force above CR; a DCL after an LCR restores CR. Rests on
the spec's general knowledge and D12. -/
def Obligations.DclAndLcr : Prop :=
  (∀ s : State, ∃ t, exec .dcl s = .next t ∧ t.cr.toNat = s.acc.toNat % 8 ∧ t = { s with cr := t.cr, pc := s.pc + 1#12 }) ∧
  ∀ s : State, s.plat.cpu = .c4040 →
    ∃ t, exec .lcr s = .next t ∧ t.acc.toNat = 8 * s.bank.rb.toNat + s.cr.toNat ∧
      t = { s with acc := t.acc, pc := s.pc + 1#12 } ∧
    ∀ u v : State, u.acc = t.acc → exec .dcl u = .next v → v.cr = s.cr

/-! ### 4040-only instructions -/

/-- R29, R170, R173 to R176, R180, R181: the register in view under SB (on a 4004 that of bank 0; 8 to 15 under every bank), and HLT,
OR4, OR5, AN6, AN7, SB0 and SB1 on a 4040. Rests on D7, D13 (HLT's program counter) and R173 (where the result goes). -/
def Obligations.HaltLogicAndIrBank : Prop :=
  (∀ (s : State) (r : Nibble), (s.plat.cpu = .c4040 → reg s r = regUnder s s.sb r) ∧
    (s.plat.cpu = .c4004 → reg s r = regUnder s 0#1 r) ∧ (8 ≤ r.toNat → ∀ b, regUnder s b r = reg s r)) ∧
  ∀ s : State, s.plat.cpu = .c4040 →
    exec .hlt s = .next { s with halted := true, pc := s.pc + 1#12 } ∧
    exec .or4 s = .next { s with acc := s.acc ||| regUnder s s.sb 4#4, pc := s.pc + 1#12 } ∧
    exec .or5 s = .next { s with acc := s.acc ||| regUnder s s.sb 5#4, pc := s.pc + 1#12 } ∧
    exec .an6 s = .next { s with acc := s.acc &&& regUnder s s.sb 6#4, pc := s.pc + 1#12 } ∧
    exec .an7 s = .next { s with acc := s.acc &&& regUnder s s.sb 7#4, pc := s.pc + 1#12 } ∧
    exec .sb0 s = .next { s with sb := 0#1, pc := s.pc + 1#12 } ∧
    exec .sb1 s = .next { s with sb := 1#1, pc := s.pc + 1#12 }

/-- R182, R183: EIN and DIN, their words and results. After a step that ran EIN a request is recognised at the next boundary, on the
level that the next step's top looks at, provided INSERVICE is 0; after one that ran DIN none is, until an EIN; a request is a
level, not remembered. Rests on D15. -/
def Obligations.InterruptDetection : Prop :=
  encode .ein = [0x0C#8] ∧ encode .din = [0x0D#8] ∧
    (∀ s : State, s.plat.cpu = .c4040 → exec .ein s = .next { s with ie := true, pc := s.pc + 1#12 } ∧
      exec .din s = .next { s with ie := false, pc := s.pc + 1#12 }) ∧
    (∀ s : State, s.plat.cpu = .c4040 → s.ie = true → exec .ein s = .next { s with pc := s.pc + 1#12 }) ∧
    (∀ s u : State, beginStep s = .run .ein u → u.plat.cpu = .c4040 → ∃ t, step s = .next t ∧
      t = tick { u with ie := true, pc := u.pc + 1#12 } ∧
      (interruptRecognised (environmentMoves t) = true ↔ (u.inService = false ∧ intIn (environmentMoves t) = true))) ∧
    (∀ s u : State, beginStep s = .run .din u → u.plat.cpu = .c4040 → ∃ t, step s = .next t ∧
      t = tick { u with ie := false, pc := u.pc + 1#12 } ∧ interruptRecognised (environmentMoves t) = false) ∧
    (∀ s : State, s.ie = false → interruptRecognised (environmentMoves s) = false) ∧
    (∀ s t : State, s.ie = false → step s = .next t → t.ie = false ∨ ∃ u, beginStep s = .run .ein u) ∧
    ∀ s : State, interruptRecognised s = true → intIn s = true

/-- R177 to R179, R172: DB0 and DB1: the next ROM_BANK_DELAY words fetched still come from the old bank, every later one from the
new bank. Rests on D11. -/
def Obligations.RomBankSwitchDelay : Prop :=
  ∀ (s : State) (n : Bit), s.plat.cpu = .c4040 →
    ∃ t, exec (if n = 0#1 then .db0 else .db1) s = .next t ∧ t = { s with bank := t.bank, pc := s.pc + 1#12 } ∧
      ∀ k : Nat, (0 < k → k ≤ s.plat.romBankDelay → romBank (bankUpdate^[k] t) = romBank s) ∧
        (s.plat.romBankDelay < k → romBank (bankUpdate^[k] t) = n)

/-- R196, R199, R75: WPM replaces one half of one word of program RAM, which every later fetch sees, leaves every other half and all
true ROM alone, and selects the other half; with no program RAM there only the selector changes, and so where the word named is not
of program RAM (log 12, the model's choice). Rests on D22, D25, D27. -/
def Obligations.WpmWritesOneHalf : Prop :=
  ∀ s : State,
    (progRamWord s = none → exec .wpm s = .next { s with halfSel := otherHalf s.halfSel, pc := s.pc + 1#12 }) ∧
    ∀ w, progRamWord s = some w →
      ∃ t, exec .wpm s = .next t ∧
        readCell t.mem.pram (halfKey w.1 w.2 s.halfSel) = some s.acc ∧
        (∀ rb a h, ¬ (rb = w.1 ∧ a = w.2 ∧ h = s.halfSel) →
          readCell t.mem.pram (halfKey rb a h) = readCell s.mem.pram (halfKey rb a h)) ∧
        (∀ d, progWord s w.1 w.2 .fetch1Upper .fetch1Lower = some d →
          progWord t w.1 w.2 .fetch1Upper .fetch1Lower =
            some (if s.halfSel = .first then s.acc ++ d.extractLsb' 0 4 else d.extractLsb' 4 4 ++ s.acc)) ∧
        t = { s with mem := { s.mem with pram := t.mem.pram }, halfSel := otherHalf s.halfSel, pc := s.pc + 1#12 }

/-- R184, R196, R199, R316: on a 4040 RPM loads the selected half and selects the other; where no 4289 controls the word, no content
of program RAM decides what it loads; two WPMs and then two RPMs at one word that a 4289 controls give the two values back, first
half first. Rests on D25, D27, log 12. -/
def Obligations.RpmReadsBack : Prop :=
  (∀ s : State, s.plat.cpu = .c4040 → ∃ t, exec .rpm s = .next t ∧
    t = { s with acc := t.acc, halfSel := otherHalf s.halfSel, pc := s.pc + 1#12 } ∧
    (∀ w v, rpmWord s = some w → readCell s.mem.pram (halfKey w.1 w.2 s.halfSel) = some v → t.acc = v) ∧
    (rpmWord s = none → ∀ cells, ∃ u, exec .rpm { s with mem := { s.mem with pram := cells } } = .next u ∧ u.acc = t.acc)) ∧
  (∀ s : State, (∀ w, rpmWord s = some w → progRamWord s = some w) ∧ (s.plat.pages4289 = [] → rpmWord s = none)) ∧
  ∀ (s : State) (x y : Nibble) (w : Bit × Addr), s.plat.cpu = .c4040 → rpmWord s = some w →
    ∃ s1 s2 s3 s4, exec .wpm { s with acc := x } = .next s1 ∧ exec .wpm { s1 with acc := y } = .next s2 ∧
      exec .rpm s2 = .next s3 ∧ exec .rpm s3 = .next s4 ∧ s3.acc = x ∧ s4.acc = y ∧ s4.halfSel = s.halfSel

/-- R185, R97, R280: on a 4004 each of the fourteen stops, naming its word; every other instruction, and every instruction on a
4040, is not stopped so. Rests on D19. -/
def Obligations.Only4040StopsOn4004 : Prop :=
  (∀ (i : Instr) (s : State), s.plat.cpu = .c4004 → i.only4040 = true →
    ∃ w : Byte, encode i = [w] ∧ exec i s = .fault (.notExecutableOn4004 s.pc w)) ∧
  ∀ (i : Instr) (s : State), (∃ a w, exec i s = .fault (.notExecutableOn4004 a w)) ↔
    (s.plat.cpu = .c4004 ∧ ∃ w : Byte, encode i = [w] ∧ 0x01 ≤ w.toNat ∧ w.toNat ≤ 0x0E)

/-! ### SRC, the RAM side and the ROM side -/

/-- R190, R66, R33: SRC sends the pair to the latches of the RAM bank and the ROM bank in force, to SRCREG on a 4040 outside service,
and to the device that it reaches; nothing else changes. It is refused only on the platform R256 excludes. Rests on D9, D10, D16
and log 27. -/
def Obligations.SrcSendsAddress : Prop :=
  ∀ (p : PairNo) (s : State), ∃ a : Byte, a = reg s (p ++ 0#1) ++ reg s (p ++ 1#1) ∧
    (targetOf s (bankOf s.cr) a = .clash → exec (.src p) s = .refused (.bankShared s.pc (bankOf s.cr))) ∧
    (targetOf s (bankOf s.cr) a ≠ .clash →
      ∃ t, exec (.src p) s = .next t ∧ selNow t = some a ∧
        (∀ b, b ≠ bankOf s.cr → look (w := 3) t.sel b = look (w := 3) s.sel b) ∧
        look (w := 1) t.romSel (romBank s) = some a ∧
        (∀ rb, rb ≠ romBank s → look (w := 1) t.romSel rb = look (w := 1) s.romSel rb) ∧
        t.srcReg = (if s.plat.cpu = .c4040 ∧ s.inService = false then some a else s.srcReg) ∧
        t.kd = (if targetOf s (bankOf s.cr) a = .dev4269 then put (w := 3) s.kd (bankOf s.cr) (kdSrc a (kdNow s)) else s.kd) ∧
        (∀ h, targetOf s (bankOf s.cr) a = .dev4265 h → ioAt t (bankOf s.cr) h = ioSrc a (ioAt s (bankOf s.cr) h)) ∧
        (∀ b h, ¬ (b = bankOf s.cr ∧ targetOf s (bankOf s.cr) a = .dev4265 h) → ioAt t b h = ioAt s b h) ∧
        t = { s with sel := t.sel, romSel := t.romSel, srcReg := t.srcReg, kd := t.kd, io := t.io, pc := s.pc + 1#12 })

/-- R67, R191, R256: which device answers: the one at the chip address s[7:6], unless a 4265 of the bank is in mode 12 or 13, which
then answers whatever the chip bits are; such a 4265 that shares its bank, which R256 excludes, makes every RAM-side read and write
a refusal (log 27). Rests on D28. -/
def Obligations.WhoAnswers : Prop :=
  (∀ (s : State) (b : BankNo) (a : Byte) (m : BankMap), m = look (w := 3) s.plat.banks b →
    ((m.chip2 ≠ .dev4265 ∨ answersWholeBank (ioAt s b 0#1) = false) →
      (m.chip3 ≠ .dev4265 ∨ answersWholeBank (ioAt s b 1#1) = false) →
      (a.extractLsb' 6 2 = 0#2 → targetOf s b a = if m.chip0Ram then .ram4002 else .empty) ∧
      (a.extractLsb' 6 2 = 1#2 →
        targetOf s b a = if m.chip1 = .dev4269 then .dev4269 else if m.chip1 = .ram4002 then .ram4002 else .empty) ∧
      (a.extractLsb' 6 2 = 2#2 →
        targetOf s b a = if m.chip2 = .dev4265 then .dev4265 0#1 else if m.chip2 = .ram4002 then .ram4002 else .empty) ∧
      (a.extractLsb' 6 2 = 3#2 →
        targetOf s b a = if m.chip3 = .dev4265 then .dev4265 1#1 else if m.chip3 = .ram4002 then .ram4002 else .empty)) ∧
    (m = { chip0Ram := false, chip1 := .empty, chip2 := .dev4265, chip3 := .empty } →
      ((ioAt s b 0#1).mode = some 12 ∨ (ioAt s b 0#1).mode = some 13) → targetOf s b a = .dev4265 0#1) ∧
    (m = { chip0Ram := false, chip1 := .empty, chip2 := .empty, chip3 := .dev4265 } →
      ((ioAt s b 1#1).mode = some 12 ∨ (ioAt s b 1#1).mode = some 13) → targetOf s b a = .dev4265 1#1) ∧
    (m.chip2 = .dev4265 → ((ioAt s b 0#1).mode = some 12 ∨ (ioAt s b 0#1).mode = some 13) →
      (m.chip0Ram = true ∨ m.chip1 ≠ .empty ∨ m.chip3 ≠ .empty) → targetOf s b a = .clash) ∧
    (m.chip3 = .dev4265 → ((ioAt s b 1#1).mode = some 12 ∨ (ioAt s b 1#1).mode = some 13) →
      (m.chip0Ram = true ∨ m.chip1 ≠ .empty ∨ m.chip2 ≠ .empty) → targetOf s b a = .clash)) ∧
  ∀ (s : State) (a : Byte), Selected s a .clash →
    (∀ op : WriteOp, exec op.instr s = .refused (.bankShared s.pc (bankOf s.cr))) ∧
    ∀ op : ReadOp, exec op.instr s = .refused (.bankShared s.pc (bankOf s.cr))

/-- R191, R192, R171, R280: the thirteen RAM-side instructions, WRR and RDR stop where no SRC has set the latch they need, and BBS
where SRCREG has no value (after the stack has given an address). Rests on D26. -/
def Obligations.IoBeforeSrcStops : Prop :=
  ∀ s : State,
    (selNow s = none → (∀ op : WriteOp, exec op.instr s = .fault (.ioBeforeSrc s.pc)) ∧
      ∀ op : ReadOp, exec op.instr s = .fault (.ioBeforeSrc s.pc)) ∧
    (look (w := 1) s.romSel (romBank s) = none →
      exec .wrr s = .fault (.ioBeforeSrc s.pc) ∧ exec .rdr s = .fault (.ioBeforeSrc s.pc)) ∧
    (s.plat.cpu = .c4040 → popStack s ≠ none → s.srcReg = none → exec .bbs s = .fault (.ioBeforeSrc s.pc)) ∧
    (s.plat.cpu = .c4040 → popStack s = none → exec .bbs s = .fault (.stackUnderflow s.pc))

/-- R193, R194, R197, R198, R200, R201, R65: on a 4002, WRM writes the selected character, WMP the chip's port, WR0 to WR3 the
status character of their number, and nothing else in any memory changes. Rests on R65 (the places of the bits). -/
def Obligations.WritesToRamChip : Prop :=
  ∀ (s : State) (a : Byte), Selected s a .ram4002 →
    (∃ t, exec .wrm s = .next t ∧ readCell t.mem.ramch (ramchKey (bankOf s.cr) a) = some s.acc ∧
      (∀ k, k ≠ ramchKey (bankOf s.cr) a → readCell t.mem.ramch k = readCell s.mem.ramch k) ∧
      t = { s with mem := { s.mem with ramch := t.mem.ramch }, pc := s.pc + 1#12 }) ∧
    (∃ t, exec .wmp s = .next t ∧ readCell t.mem.ramport (ramportKey (bankOf s.cr) a) = some s.acc ∧
      (∀ k, k ≠ ramportKey (bankOf s.cr) a → readCell t.mem.ramport k = readCell s.mem.ramport k) ∧
      t = { s with mem := { s.mem with ramport := t.mem.ramport }, pc := s.pc + 1#12 }) ∧
    ∀ n : BitVec 2, ∃ t, exec (if n = 0#2 then .wr0 else if n = 1#2 then .wr1 else if n = 2#2 then .wr2 else .wr3) s = .next t ∧
      readCell t.mem.ramst (ramstKey (bankOf s.cr) a n) = some s.acc ∧
      (∀ k, k ≠ ramstKey (bankOf s.cr) a n → readCell t.mem.ramst k = readCell s.mem.ramst k) ∧
      t = { s with mem := { s.mem with ramst := t.mem.ramst }, pc := s.pc + 1#12 }

/-- R202, R203, R205 to R209, R80: on a 4002, RDM, ADM and SBM receive the selected character and RD0 to RD3 the status character
of their number, where it has been written; where nothing has written it they receive some value and go on. Nothing in memory
changes. Rests on D23 and R65. -/
def Obligations.ReadsFromRamChip : Prop :=
  ∀ (s : State) (a : Byte) (op : ReadOp), Selected s a .ram4002 →
    ∃ v, exec op.instr s = .next (receive op v s) ∧
      ((op = .rdm ∨ op = .adm ∨ op = .sbm) → ∀ x, readCell s.mem.ramch (ramchKey (bankOf s.cr) a) = some x → v = x) ∧
      (op = .rd0 → ∀ x, readCell s.mem.ramst (ramstKey (bankOf s.cr) a 0#2) = some x → v = x) ∧
      (op = .rd1 → ∀ x, readCell s.mem.ramst (ramstKey (bankOf s.cr) a 1#2) = some x → v = x) ∧
      (op = .rd2 → ∀ x, readCell s.mem.ramst (ramstKey (bankOf s.cr) a 2#2) = some x → v = x) ∧
      (op = .rd3 → ∀ x, readCell s.mem.ramst (ramstKey (bankOf s.cr) a 3#2) = some x → v = x)

/-- R60, R65: the characters, status characters and ports of different selections are different cells, as far as the bits that
each reference uses differ, and only so far. Rests on R65 (the places of the bits). -/
def Obligations.CellsOfSelections : Prop :=
  ∀ (b b' : BankNo) (a a' : Byte) (k k' : BitVec 2),
    (ramchKey b a = ramchKey b' a' ↔ (b = b' ∧ a = a')) ∧
    (ramstKey b a k = ramstKey b' a' k' ↔ (b = b' ∧ a.extractLsb' 4 4 = a'.extractLsb' 4 4 ∧ k = k')) ∧
    (ramportKey b a = ramportKey b' a' ↔ (b = b' ∧ a.extractLsb' 6 2 = a'.extractLsb' 6 2))

/-- R67, R191, R283: at an empty chip address a write changes nothing but the program counter and a read receives some value; no
fault. Rests on D25. -/
def Obligations.EmptyChipAddress : Prop :=
  ∀ (s : State) (a : Byte), Selected s a .empty →
    (∀ op : WriteOp, exec op.instr s = .next { s with pc := s.pc + 1#12 }) ∧
    ∀ op : ReadOp, ∃ v, exec op.instr s = .next (receive op v s)

/-- R195, R204, R192: WRR writes the output side of the ROM port that the latch of the ROM bank in force names, and no other cell;
RDR reads the port's input lines; an absent port loses the write and gives some value. Rests on D10, D38 and log 8. -/
def Obligations.RomPorts : Prop :=
  ∀ (s : State) (a : Byte), look (w := 1) s.romSel (romBank s) = some a →
    (romPortPresent s.plat (romBank s) (a.extractLsb' 4 4) = true →
      (∃ t, exec .wrr s = .next t ∧ readCell t.mem.romport (romportKey (romBank s) (a.extractLsb' 4 4)) = some s.acc ∧
        (∀ k, k ≠ romportKey (romBank s) (a.extractLsb' 4 4) → readCell t.mem.romport k = readCell s.mem.romport k) ∧
        t = { s with mem := { s.mem with romport := t.mem.romport }, pc := s.pc + 1#12 }) ∧
      exec .rdr s = .next { s with acc := portIn s, pc := s.pc + 1#12 }) ∧
    (romPortPresent s.plat (romBank s) (a.extractLsb' 4 4) = false →
      exec .wrr s = .next { s with pc := s.pc + 1#12 } ∧
      ∃ v, exec .rdr s = .next { s with acc := v, pc := s.pc + 1#12 })

/-- R191, R66, R315: no instruction touches a data RAM bank that CR does not designate: neither its latch, nor its characters, status
characters and ports, nor its 4269, nor its 4265s. Rests on D9. -/
def Obligations.OtherRamBanksUntouched : Prop :=
  ∀ (i : Instr) (s t : State) (b : BankNo), exec i s = .next t → b ≠ bankOf s.cr →
    look (w := 3) t.sel b = look (w := 3) s.sel b ∧ look (w := 3) t.kd b = look (w := 3) s.kd b ∧
    (∀ h, ioAt t b h = ioAt s b h) ∧
    ∀ a, readCell t.mem.ramch (ramchKey b a) = readCell s.mem.ramch (ramchKey b a) ∧
      (∀ k, readCell t.mem.ramst (ramstKey b a k) = readCell s.mem.ramst (ramstKey b a k)) ∧
      readCell t.mem.ramport (ramportKey b a) = readCell s.mem.ramport (ramportKey b a)

/-! ### The 4269 -/

/-- R235, R236: WMP loads and RD3 reads the display register that the pointer names, in every display mode; the pointer, every other
register and the rest of the machine stay. nextAddr is next(a), which NopOnlyAdvances states. -/
def Obligations.DisplayWithoutAdvance : Prop :=
  ∀ (s : State) (a : Byte) (o : OutMode) (i : InMode), Selected s a .dev4269 → (kdNow s).modes = some (o, i) →
    (∃ t, exec .wmp s = .next t ∧ displayReg (kdNow t) = s.acc ∧
      (∀ p, p ≠ (kdNow s).ptr → displayReg { kdNow t with ptr := p } = displayReg { kdNow s with ptr := p }) ∧
      kdNow t = { kdNow s with regA := (kdNow t).regA, regB := (kdNow t).regB } ∧
      t = { s with kd := put (w := 3) s.kd (bankOf s.cr) (kdNow t), pc := nextAddr s 1 }) ∧
    exec .rd3 s = .next { s with acc := displayReg (kdNow s), pc := nextAddr s 1 }

/-- R233, R234, R222: WRM loads and RDM reads the display register that the pointer names, then the pointer moves: along its side in
individual mode, along A0, B0, A1, B1, ... in a gas discharge mode. What follows the last register is open (log 18), and both
instructions complete there too. That a pointer above 7 on an 8-deep display counts on is the model's choice (log 37). Rests on
D29. -/
def Obligations.DisplayWithAdvance : Prop :=
  ∀ (s : State) (a : Byte) (o : OutMode) (i : InMode) (k : Kd4269), Selected s a .dev4269 → k = kdNow s → k.modes = some (o, i) →
    ∃ p : DisplayPtr,
      (o = .individual → k.ptr.n ≠ 15#4 → k.ptr.n ≠ lastNumber (displayLength k k.ptr.side) →
        p = { side := k.ptr.side, n := k.ptr.n + 1#4 }) ∧
      (o ≠ .individual → k.ptr.side = .a → p = { side := .b, n := k.ptr.n }) ∧
      (o ≠ .individual → k.ptr.side = .b → k.ptr.n ≠ 15#4 → p = { side := .a, n := k.ptr.n + 1#4 }) ∧
      exec .rdm s = .next { s with acc := displayReg k, pc := s.pc + 1#12
                                   kd := put (w := 3) s.kd (bankOf s.cr) { k with ptr := p } } ∧
      ∃ t, exec .wrm s = .next t ∧ (kdNow t).ptr = p ∧ displayReg { kdNow t with ptr := k.ptr } = s.acc ∧
        (∀ q, q ≠ k.ptr → displayReg { kdNow t with ptr := q } = displayReg { k with ptr := q }) ∧
        kdNow t = { k with regA := (kdNow t).regA, regB := (kdNow t).regB, ptr := p } ∧
        t = { s with kd := put (w := 3) s.kd (bankOf s.cr) (kdNow t), pc := s.pc + 1#12 }

/-- R227, R220: WR0 sets the output mode from ACC[3:2] and the input mode from ACC[1:0]. If the modes are those in force nothing
changes; otherwise the display registers and the FIFO alone are left open (log 20). -/
def Obligations.KeyboardDisplayModes : Prop :=
  ∀ (s : State) (a : Byte), Selected s a .dev4269 →
    ∃ t o i, exec .wr0 s = .next t ∧
      [OutMode.individual, .gas20, .gas18, .gas16][s.acc.toNat / 4]? = some o ∧
      [InMode.sensor, .contact, .encoded, .notUsed][s.acc.toNat % 4]? = some i ∧
      (kdNow t).modes = some (o, i) ∧
      ((kdNow s).modes = some (o, i) → kdNow t = kdNow s) ∧
      kdNow t = { kdNow s with modes := some (o, i), regA := (kdNow t).regA, regB := (kdNow t).regB, fifo := (kdNow t).fifo } ∧
      t = { s with kd := put (w := 3) s.kd (bankOf s.cr) (kdNow t), pc := s.pc + 1#12 }

/-- R230 to R232: WR3 and WR1 blank every display register; WR3 empties the FIFO and keeps the modes, and leaves pointer, flags,
lengths, status buffer and INT line open (log 21); WR1 resets the pointer and, in individual mode, takes the lengths from ACC[3:2].
The code of a blank is open (log 18). That WR3 keeps the sensor RAM is the model's reading (log 36), that WR1 keeps the side in
individual mode the spec's decision D29. -/
def Obligations.DisplayClears : Prop :=
  ∀ (s : State) (a : Byte) (o : OutMode) (i : InMode) (k : Kd4269), Selected s a .dev4269 → k = kdNow s → k.modes = some (o, i) →
    ∃ t u, exec .wr3 s = .next t ∧ exec .wr1 s = .next u ∧
      (∀ n : Nibble, look (w := 4) (kdNow t).regA n = (Config.blank o).1 ∧ look (w := 4) (kdNow t).regB n = (Config.blank o).2 ∧
        look (w := 4) (kdNow u).regA n = (Config.blank o).1 ∧ look (w := 4) (kdNow u).regB n = (Config.blank o).2) ∧
      (kdNow t).fifo = [] ∧ (kdNow t).modes = k.modes ∧ (kdNow t).sens = k.sens ∧
      (o ≠ .individual → kdNow u = { k with regA := (kdNow u).regA, regB := (kdNow u).regB, ptr := { side := .a, n := 0#4 } }) ∧
      (o = .individual → kdNow u = { k with
        regA := (kdNow u).regA, regB := (kdNow u).regB, ptr := { k.ptr with n := 0#4 }
        deepB := if 8 ≤ s.acc.toNat then .eight else .sixteen
        deepA := if 4 ≤ s.acc.toNat % 8 then .eight else .sixteen }) ∧
      t = { s with kd := put (w := 3) s.kd (bankOf s.cr) (kdNow t), pc := s.pc + 1#12 } ∧
      u = { s with kd := put (w := 3) s.kd (bankOf s.cr) (kdNow u), pc := s.pc + 1#12 }

/-- R237 to R240: in a keyboard mode RD1 reads the first nibble of the current entry, RD2 the second and consumes it, RD0 some
status, and WR2 empties the FIFO and clears the status buffer and the INT line. On an empty FIFO both reads receive some value and
the device stays as it is (log 22). That a cleared status buffer is 0 is the model's choice (log 24). -/
def Obligations.KeyboardFifo : Prop :=
  ∀ (s : State) (a : Byte) (o : OutMode) (i : InMode) (k : Kd4269), Selected s a .dev4269 → k = kdNow s → k.modes = some (o, i) →
    (i = .contact ∨ i = .encoded) →
    (∀ e rest, k.fifo = e :: rest →
      exec .rd1 s = .next { s with acc := e.first, pc := s.pc + 1#12 } ∧
      exec .rd2 s = .next { s with acc := e.second, pc := s.pc + 1#12
                                   kd := put (w := 3) s.kd (bankOf s.cr) { k with fifo := rest } }) ∧
    (k.fifo = [] →
      (∃ v, exec .rd1 s = .next { s with acc := v, pc := s.pc + 1#12 }) ∧
      ∃ v, exec .rd2 s = .next { s with acc := v, pc := s.pc + 1#12 }) ∧
    (∃ v, exec .rd0 s = .next { s with acc := v, pc := s.pc + 1#12 }) ∧
    exec .wr2 s = .next { s with pc := s.pc + 1#12
                                 kd := put (w := 3) s.kd (bankOf s.cr)
                                   { k with fifo := [], statusBuffer := 0#4, intLine := false } }

/-- R241, R242: in sensor mode RD1 and RD2 read the upper and the lower half of the selected group and change no device state; WR2
clears the FIFO/RAM logic and the INT line, not the status buffer. Rests on log 36 for the sensor RAM. -/
def Obligations.SensorGroups : Prop :=
  ∀ (s : State) (a : Byte) (o : OutMode) (k : Kd4269), Selected s a .dev4269 → k = kdNow s → k.modes = some (o, .sensor) →
    exec .rd1 s = .next { s with acc := (look (w := 3) k.sens k.sensGroup).extractLsb' 4 4, pc := s.pc + 1#12 } ∧
    exec .rd2 s = .next { s with acc := (look (w := 3) k.sens k.sensGroup).extractLsb' 0 4, pc := s.pc + 1#12 } ∧
    exec .wr2 s = .next { s with pc := s.pc + 1#12
                                 kd := put (w := 3) s.kd (bankOf s.cr) { k with fifo := [], intLine := false } }

/-- R229, R226: what a 4269 makes of a SRC address e ++ n, by output mode and input mode; before WR0 has set the modes it is only
selected. Values of e not listed change nothing. Rests on D29; that a gas discharge blanking may overwrite the registers is log 19. -/
def Obligations.SrcOnKeyboardDisplay : Prop :=
  (∀ (x : Byte) (k : Kd4269), k.modes = none → kdSrc x k = k) ∧
  ∀ (e n : Nibble) (o : OutMode) (i : InMode) (k g : Kd4269), k.modes = some (o, i) →
    g = { k with sensGroup := if i = .sensor ∧ e = 4#4 then n.extractLsb' 1 3 else k.sensGroup } →
    (o = .individual → (e = 4#4 ∨ e = 6#4) →
      kdSrc (e ++ n) k = { g with ptr := { side := .a, n := n }, blankA := decide (e = 6#4) }) ∧
    (o = .individual → (e = 5#4 ∨ e = 7#4) →
      kdSrc (e ++ n) k = { g with ptr := { side := .b, n := n }, blankB := decide (e = 7#4) }) ∧
    (o ≠ .individual → e = 4#4 → kdSrc (e ++ n) k = { g with ptr := { side := .a, n := n }, displayBlanked := false }) ∧
    (o ≠ .individual → e = 6#4 → kdSrc (e ++ n) k =
      { g with ptr := { side := .a, n := n }, displayBlanked := true
               regA := (kdSrc (e ++ n) k).regA, regB := (kdSrc (e ++ n) k).regB }) ∧
    ((e.toNat < 4 ∨ 7 < e.toNat ∨ (o ≠ .individual ∧ (e = 5#4 ∨ e = 7#4))) → kdSrc (e ++ n) k = k)

/-- R220, R226, R243: where the card's tables have no row the machine stops by name: before WR0 every other code, SBM and ADM always,
RD0 in sensor mode, and RD0, RD1, RD2 and WR2 in the mode "Not Used". Rests on D29. -/
def Obligations.KeyboardDisplayStops : Prop :=
  ∀ (s : State) (a : Byte), Selected s a .dev4269 →
    ((kdNow s).modes = none →
      (∀ op : WriteOp, op ≠ .wr0 → exec op.instr s = .fault (.unmodelledDeviceOp s.pc .dev4269 op.code)) ∧
      ∀ op : ReadOp, exec op.instr s = .fault (.unmodelledDeviceOp s.pc .dev4269 op.code)) ∧
    (exec .sbm s = .fault (.unmodelledDeviceOp s.pc .dev4269 0xE8#8) ∧
      exec .adm s = .fault (.unmodelledDeviceOp s.pc .dev4269 0xEB#8)) ∧
    (∀ o, (kdNow s).modes = some (o, .sensor) → exec .rd0 s = .fault (.unmodelledDeviceOp s.pc .dev4269 0xEC#8)) ∧
    ∀ o, (kdNow s).modes = some (o, .notUsed) →
      exec .wr2 s = .fault (.unmodelledDeviceOp s.pc .dev4269 0xE6#8) ∧
      exec .rd0 s = .fault (.unmodelledDeviceOp s.pc .dev4269 0xEC#8) ∧
      exec .rd1 s = .fault (.unmodelledDeviceOp s.pc .dev4269 0xED#8) ∧
      exec .rd2 s = .fault (.unmodelledDeviceOp s.pc .dev4269 0xEE#8)

/-! ### The 4265 -/

/-- R258, R253: WMP to a 4265 sets a mode 0 to 13, disables the ports (1110) and enables them (1111) with the mode kept, and leaves
the latches. Before any mode is set only a mode may be (log 25), and every other instruction to the device stops. -/
def Obligations.IoDeviceMode : Prop :=
  ∀ (s : State) (a : Byte) (h : Bit) (d : Io4265), Selected s a (.dev4265 h) → d = ioAt s (bankOf s.cr) h →
    (∀ lt : s.acc.toNat < 14, exec .wmp s =
      .next { s with io := put (w := 4) s.io (bankOf s.cr ++ h) { d with mode := some ⟨s.acc.toNat, lt⟩ }, pc := s.pc + 1#12 }) ∧
    (d.mode ≠ none → s.acc = 14#4 → exec .wmp s =
      .next { s with io := put (w := 4) s.io (bankOf s.cr ++ h) { d with enabled := false }, pc := s.pc + 1#12 }) ∧
    (d.mode ≠ none → s.acc = 15#4 → exec .wmp s =
      .next { s with io := put (w := 4) s.io (bankOf s.cr ++ h) { d with enabled := true }, pc := s.pc + 1#12 }) ∧
    (d.mode = none →
      (14 ≤ s.acc.toNat → exec .wmp s = .fault (.unmodelledDeviceOp s.pc .dev4265 0xE1#8)) ∧
      (∀ op : WriteOp, op ≠ .wmp → exec op.instr s = .fault (.unmodelledDeviceOp s.pc .dev4265 op.code)) ∧
      ∀ op : ReadOp, exec op.instr s = .fault (.unmodelledDeviceOp s.pc .dev4265 op.code))

/-- R254, R259 to R262, R268: WR0 to WR3 on a 4265 with its ports enabled write the port that the card's row and column name; where
the card attaches Note 1, only if the port is designated output; WR3 in modes 1 to 3 does nothing. The directions that the table
does not settle are open (log 17). -/
def Obligations.IoDeviceWrites : Prop :=
  ∀ (s : State) (a : Byte) (h : Bit) (d : Io4265) (m : Fin 14), Selected s a (.dev4265 h) → d = ioAt s (bankOf s.cr) h →
    d.mode = some m → d.enabled = true →
    ∃ t0 t1 t2 t3, exec .wr0 s = .next t0 ∧ exec .wr1 s = .next t1 ∧ exec .wr2 s = .next t2 ∧ exec .wr3 s = .next t3 ∧
      ((m.val = 1 ∨ m.val = 2 ∨ m.val = 3) →
        ioAt t0 (bankOf s.cr) h = { d with outW := s.acc } ∧ ioAt t1 (bankOf s.cr) h = { d with outX := s.acc } ∧
        ioAt t2 (bankOf s.cr) h = (if Config.dir4265 m .y = .output then { d with outY := s.acc } else d) ∧
        ioAt t3 (bankOf s.cr) h = d) ∧
      ((m.val = 0 ∨ (4 ≤ m.val ∧ m.val ≤ 11)) →
        ioAt t0 (bankOf s.cr) h = (if Config.dir4265 m .w = .output then { d with outW := s.acc } else d) ∧
        ioAt t1 (bankOf s.cr) h = (if Config.dir4265 m .x = .output then { d with outX := s.acc } else d) ∧
        ioAt t2 (bankOf s.cr) h = (if Config.dir4265 m .y = .output then { d with outY := s.acc } else d) ∧
        ioAt t3 (bankOf s.cr) h = (if Config.dir4265 m .z = .output then { d with outZ := s.acc } else d)) ∧
      ((m.val = 12 ∨ m.val = 13) →
        ioAt t0 (bankOf s.cr) h = { d with outY := s.acc } ∧ ioAt t1 (bankOf s.cr) h = { d with outY := s.acc } ∧
        ioAt t2 (bankOf s.cr) h = { d with outY := s.acc } ∧ ioAt t3 (bankOf s.cr) h = { d with outY := s.acc }) ∧
      ∀ t ∈ [t0, t1, t2, t3],
        t = { s with io := put (w := 4) s.io (bankOf s.cr ++ h) (ioAt t (bankOf s.cr) h), pc := s.pc + 1#12 }

/-- R257, R251: WRM on a 4265 changes at most the one bit of port Y or Z that ACC[3:1] designates, to ACC[0], if the port is
designated output and the ports are enabled; the eight numbers designate the eight bits, each one, in an order that is open
(log 17). With the ports disabled no write changes a latch (log 26, the model's choice). -/
def Obligations.IoDeviceBitSet : Prop :=
  (∀ n : BitVec 3, (bitTarget n).1 = .y ∨ (bitTarget n).1 = .z) ∧
  (∀ (p : Port) (j : BitVec 2), (p = .y ∨ p = .z) → ∃ n : BitVec 3, bitTarget n = (p, j) ∧ ∀ k, bitTarget k = (p, j) → k = n) ∧
  ∀ (s : State) (a : Byte) (h : Bit) (d : Io4265) (m : Fin 14), Selected s a (.dev4265 h) → d = ioAt s (bankOf s.cr) h →
    d.mode = some m →
    (∃ t p j, exec .wrm s = .next t ∧
      (p, j) = bitTarget (s.acc.extractLsb' 1 3) ∧
      (d.enabled = true → portDirection m p = .output →
        (portLatch (ioAt t (bankOf s.cr) h) p).getLsbD j.toNat = s.acc.getLsbD 0) ∧
      (∀ q n, ¬ (q = p ∧ n = j.toNat) → (portLatch (ioAt t (bankOf s.cr) h) q).getLsbD n = (portLatch d q).getLsbD n) ∧
      (d.enabled = false ∨ portDirection m p = .input → ioAt t (bankOf s.cr) h = d) ∧
      (ioAt t (bankOf s.cr) h).mode = d.mode ∧ (ioAt t (bankOf s.cr) h).enabled = d.enabled ∧
      t = { s with io := put (w := 4) s.io (bankOf s.cr ++ h) (ioAt t (bankOf s.cr) h), pc := s.pc + 1#12 }) ∧
    (d.enabled = false → ∀ op : WriteOp, op ≠ .wmp →
      exec op.instr s = .next { s with io := put (w := 4) s.io (bankOf s.cr ++ h) d, pc := s.pc + 1#12 })

/-- R254, R263 to R267, R251: the reads of a 4265 receive, with the ports enabled, the lines of the port that the card's row and
column name, or its latch where the port is an output; with the ports disabled some value. The device does not change. Rests on D28
and log 8, 17. -/
def Obligations.IoDeviceReads : Prop :=
  ∀ (s : State) (a : Byte) (h : Bit) (d : Io4265) (m : Fin 14) (op : ReadOp), Selected s a (.dev4265 h) →
    d = ioAt s (bankOf s.cr) h → d.mode = some m →
    (d.enabled = true → ∃ p : Port,
      (p = if op = .rd0 ∧ m.val < 12 then .w else if op = .rd1 ∧ m.val < 12 then .x else if op = .rd3 ∧ m.val < 12 then .z else .y) ∧
      exec op.instr s = .next (receive op (if portDirection m p = .input then portIn s else portLatch d p) s)) ∧
    (d.enabled = false → ∃ v, exec op.instr s = .next (receive op v s))

/-- R255, R256, R268: a SRC changes nothing of a 4265 in modes 0 to 11 or without a mode; in modes 12 and 13 with the ports enabled
the eight address bits go out on ports W and X, with the ports disabled nothing changes (log 26, the model's reading of D28). W and
X are outputs in modes 1 to 3 and, with Y, in modes 12 and 13. Rests on D28. -/
def Obligations.SrcOnIoDevice : Prop :=
  (∀ (x : Byte) (d : Io4265),
    (∀ m : Fin 14, d.mode = some m → m.val < 12 → ioSrc x d = d) ∧ (d.mode = none → ioSrc x d = d) ∧
    (∀ m : Fin 14, d.mode = some m → 12 ≤ m.val → d.enabled = true →
      ioSrc x d = { d with outW := x.extractLsb' 4 4, outX := x.extractLsb' 0 4 }) ∧
    (d.enabled = false → ioSrc x d = d)) ∧
  ∀ m : Fin 14,
    ((m.val = 1 ∨ m.val = 2 ∨ m.val = 3) → portDirection m .w = .output ∧ portDirection m .x = .output) ∧
    ((m.val = 12 ∨ m.val = 13) →
      portDirection m .w = .output ∧ portDirection m .x = .output ∧ portDirection m .y = .output)

/-! ### Interrupt and halt -/

/-- R285, R286: a recognised interrupt is entered instead of an instruction: PC saved on the stack, the list or the circular one,
003 the new PC, INSERVICE set, HALTED cleared, IE cleared if the parameter says so, nothing else; a full list stops, with the
program counter as its address (log 42, the model's choice). Rests on D3, D14, D15, D16 and, for the circular stack, the spec's
general knowledge. -/
def Obligations.InterruptIsEntered : Prop :=
  ∀ s u : State, u = environmentMoves s → u.plat.cpu = .c4040 → u.ie = true → u.inService = false → intIn u = true →
    (u.plat.stackWrap = false → u.stack.levels.length < u.plat.stackDepth →
      step s = .next (tick { u with
        stack := { u.stack with levels := u.stack.levels ++ [s.pc] }
        pc := 0x003#12
        inService := true
        halted := false
        ie := if u.plat.intEntryClearsIe then false else true })) ∧
    (u.plat.stackWrap = false → u.plat.stackDepth ≤ u.stack.levels.length → step s = .fault (.stackOverflow s.pc)) ∧
    (u.plat.stackWrap = true → u.stack.ar.length = u.plat.stackDepth + 1 → u.stack.sp ≤ u.plat.stackDepth →
      ∃ t, step s = .next (tick t) ∧ t.stack.ar[u.stack.sp]? = some s.pc ∧
        (∀ k, k ≠ u.stack.sp → t.stack.ar[k]? = u.stack.ar[k]?) ∧
        t.stack.sp = (if u.stack.sp = u.plat.stackDepth then 0 else u.stack.sp + 1) ∧
        t = { u with
          stack := { u.stack with ar := t.stack.ar, sp := t.stack.sp }
          pc := 0x003#12
          inService := true
          halted := false
          ie := if u.plat.intEntryClearsIe then false else true })

/-- R288, R281: a halted 4040 without a recognised interrupt executes nothing: only the environment moves and the step ends; it
leaves the halt only on a request with detection disabled, outside service, where the parameter says so. Rests on D13. -/
def Obligations.HaltWaits : Prop :=
  ∀ s u : State, u = environmentMoves s → u.plat.cpu = .c4040 → u.halted = true → interruptRecognised u = false →
    ((u.plat.haltExitWhenDisabled = true ∧ u.ie = false ∧ u.inService = false ∧ intIn u = true) →
      step s = .next (tick { u with halted := false })) ∧
    (¬ (u.plat.haltExitWhenDisabled = true ∧ u.ie = false ∧ u.inService = false ∧ intIn u = true) → step s = .next (tick u))

/-- R171, R287, R33: on a 4040 with a return address and SRCREG set, BBS returns as BBL does (the list's top; the circular stack's
register), sends SRCREG again as SRC would, to the latches and to the device that it reaches, and ends the service, with every other
device and everything else unchanged; it is refused only on the platform R256 excludes (log 27). So, after an interrupt entry, in any
state with the same stack and parameters, it returns to the interrupted program's PC and stack. Rests on D15, D16 and, for devices
and the circular stack, log 15, 16. -/
def Obligations.BbsEndsInterrupt : Prop :=
  (∀ (s : State) (r : Byte), s.plat.cpu = .c4040 → s.srcReg = some r →
    ((s.plat.stackWrap = false ∧ s.stack.levels ≠ []) ∨
      (s.plat.stackWrap = true ∧ s.stack.ar.length = s.plat.stackDepth + 1 ∧ s.stack.sp ≤ s.plat.stackDepth)) →
    (targetOf s (bankOf s.cr) r = .clash → exec .bbs s = .refused (.bankShared s.pc (bankOf s.cr))) ∧
    (targetOf s (bankOf s.cr) r ≠ .clash →
      ∃ t, exec .bbs s = .next t ∧ selNow t = some r ∧ look (w := 1) t.romSel (romBank s) = some r ∧
        (∀ b, b ≠ bankOf s.cr → look (w := 3) t.sel b = look (w := 3) s.sel b) ∧
        (∀ rb, rb ≠ romBank s → look (w := 1) t.romSel rb = look (w := 1) s.romSel rb) ∧
        t.kd = (if targetOf s (bankOf s.cr) r = .dev4269 then put (w := 3) s.kd (bankOf s.cr) (kdSrc r (kdNow s)) else s.kd) ∧
        (∀ h, targetOf s (bankOf s.cr) r = .dev4265 h → ioAt t (bankOf s.cr) h = ioSrc r (ioAt s (bankOf s.cr) h)) ∧
        (∀ b h, ¬ (b = bankOf s.cr ∧ targetOf s (bankOf s.cr) r = .dev4265 h) → ioAt t b h = ioAt s b h) ∧
        (s.plat.stackWrap = false → ∀ (l : List Addr) (v : Addr), s.stack.levels = l ++ [v] →
          t.pc = v ∧ t.stack = { s.stack with levels := l }) ∧
        (∀ (d : Nibble) (u : State), exec (.bbl d) s = .next u → t.pc = u.pc ∧ t.stack = u.stack) ∧
        t = { s with pc := t.pc, stack := t.stack, inService := false
                     sel := t.sel, romSel := t.romSel, kd := t.kd, io := t.io })) ∧
  ∀ (s t u : State) (r : Byte), s.Inv → s.plat.cpu = .c4040 → 0 < s.plat.stackDepth → interruptEntry s = .next t →
    u.stack = t.stack → u.plat = t.plat → u.srcReg = some r → targetOf u (bankOf u.cr) r ≠ .clash →
    ∃ v, exec .bbs u = .next v ∧ v.pc = s.pc ∧ v.stack.levels = s.stack.levels ∧ v.stack.sp = s.stack.sp ∧
      v.inService = false ∧ selNow v = some r

/-- R284, R285, R289, R44: no interrupt is recognised on a 4004, with detection disabled, in service, or without a request; the request
is the 4269's INT line where the platform wires it so; and on a 4004 what the request input does cannot change a step. Rests on
D15, D35, D36 and log 8. -/
def Obligations.NoRecognition : Prop :=
  (∀ s : State,
    (s.plat.cpu = .c4004 ∨ s.ie = false ∨ s.inService = true ∨ intIn s = false → interruptRecognised s = false) ∧
    (∀ b, s.plat.intWiring = some b → (look (w := 3) s.plat.banks b).chip1 = .dev4269 →
      intIn s = (look (w := 3) s.kd b).intLine) ∧
    (s.plat.intWiring = none → intIn s = (inputNow s).int)) ∧
  ∀ (s : State) (x : Inputs) (level : Bool) (rest : List Inputs), s.plat.cpu = .c4004 →
    step { s with inputs := { x with int := level } :: rest } = step { s with inputs := x :: rest }

/-! ### The whole machine -/

/-- R47, R148, R45, R75, R69, R161: which instructions can change each piece of state, the devices included; the parameters, true
ROM, the schedule of inputs and the clock are changed by none, and no step changes the parameters or true ROM. Rests on R47, which
the spec derives, and for DAA, which never clears the carry, on the spec's general knowledge. -/
def Obligations.WhoWritesWhat : Prop :=
  (∀ s t : State, step s = .next t → t.plat = s.plat ∧ t.mem.rom = s.mem.rom) ∧
  ∀ (i : Instr) (s t : State), exec i s = .next t →
    t.plat = s.plat ∧ t.mem.rom = s.mem.rom ∧ t.inputs = s.inputs ∧ t.clock = s.clock ∧
    (t.acc ≠ s.acc → (∃ r, i = .add r) ∨ (∃ r, i = .sub r) ∨ (∃ r, i = .ld r) ∨ (∃ r, i = .xch r) ∨ (∃ d, i = .bbl d) ∨
      (∃ d, i = .ldm d) ∨ i ∈ [.clb, .iac, .cma, .ral, .rar, .tcc, .dac, .tcs, .daa, .kbp, .lcr, .or4, .or5, .an6, .an7, .rpm,
        .sbm, .rdm, .rdr, .adm, .rd0, .rd1, .rd2, .rd3]) ∧
    (t.cr ≠ s.cr → i = .dcl) ∧
    (t.sb ≠ s.sb → i = .sb0 ∨ i = .sb1) ∧
    (t.ie ≠ s.ie → i = .ein ∨ i = .din) ∧
    (t.inService ≠ s.inService → i = .bbs) ∧
    (t.halted ≠ s.halted → i = .hlt) ∧
    (t.bank ≠ s.bank → i = .db0 ∨ i = .db1) ∧
    (t.stack ≠ s.stack → (∃ a, i = .jms a) ∨ (∃ d, i = .bbl d) ∨ i = .bbs) ∧
    (t.ir ≠ s.ir → (∃ p d, i = .fim p d) ∨ (∃ p, i = .fin p) ∨ (∃ r, i = .inc r) ∨ (∃ r a, i = .isz r a) ∨ ∃ r, i = .xch r) ∧
    (t.srcReg ≠ s.srcReg → ∃ p, i = .src p) ∧
    (t.sel ≠ s.sel ∨ t.romSel ≠ s.romSel → (∃ p, i = .src p) ∨ i = .bbs) ∧
    (t.halfSel ≠ s.halfSel → i = .wpm ∨ i = .rpm) ∧
    (t.mem.pram ≠ s.mem.pram → i = .wpm) ∧
    (t.mem.ramch ≠ s.mem.ramch → i = .wrm) ∧
    (t.mem.ramst ≠ s.mem.ramst → i = .wr0 ∨ i = .wr1 ∨ i = .wr2 ∨ i = .wr3) ∧
    (t.mem.ramport ≠ s.mem.ramport → i = .wmp) ∧
    (t.mem.romport ≠ s.mem.romport → i = .wrr) ∧
    (t.kd ≠ s.kd → (∃ p, i = .src p) ∨ i ∈ [.bbs, .wrm, .wmp, .wr0, .wr1, .wr2, .wr3, .rdm, .rd2]) ∧
    (t.io ≠ s.io → (∃ p, i = .src p) ∨ i ∈ [.bbs, .wrm, .wmp, .wr0, .wr1, .wr2, .wr3]) ∧
    (s.cy = 1#1 → t.cy = 0#1 → i ≠ .daa) ∧
    (t.cy ≠ s.cy → (∃ r, i = .add r) ∨ (∃ r, i = .sub r) ∨
      i ∈ [.adm, .sbm, .clb, .clc, .iac, .cmc, .ral, .rar, .tcc, .dac, .tcs, .stc, .daa])

/-- R148, R60 to R80, R177, R253 and log 35: the invariant of the machine is kept by every step, from every state that has it and on
every platform. -/
def Obligations.InvariantKept : Prop :=
  ∀ s t : State, s.Inv → step s = .next t → t.Inv

/-- R46, R310 (the values are the spec's decision D17): the state after reset on any platform, and that it has the invariant. -/
def Obligations.ResetState : Prop :=
  ∀ p : Platform, (State.resetOn p).Inv ∧
    (State.resetOn p).pc = 0x000#12 ∧ (State.resetOn p).acc = 0#4 ∧ (State.resetOn p).cy = 0#1 ∧
    (∀ b r, regUnder (State.resetOn p) b r = 0#4) ∧ (State.resetOn p).stack.levels = [] ∧ (State.resetOn p).cr = 0#3 ∧
    (State.resetOn p).bank = { rb := 0#1, next := 0#1, count := 0 } ∧ (State.resetOn p).sb = 0#1 ∧
    (State.resetOn p).ie = false ∧ (State.resetOn p).inService = false ∧ (State.resetOn p).halted = false ∧
    (State.resetOn p).srcReg = none ∧ (∀ b, look (w := 3) (State.resetOn p).sel b = none) ∧
    (∀ rb, look (w := 1) (State.resetOn p).romSel rb = none) ∧ (State.resetOn p).halfSel = .first ∧
    (∀ k, readCell (State.resetOn p).mem.ramch k = none ∧ readCell (State.resetOn p).mem.ramst k = none ∧
      readCell (State.resetOn p).mem.pram k = none) ∧
    (∀ b, (look (w := 3) (State.resetOn p).kd b).modes = none) ∧
    (∀ b h, (ioAt (State.resetOn p) b h).mode = none ∧ (ioAt (State.resetOn p) b h).enabled = p.enabled4265) ∧
    State.reset = State.resetOn Platform.reset

end
end

