-- ==== Sys2Proof/Laws/Memory.lean ====
section
/-! SUPPORT. The laws of the cells: a read after a write, and that every memory operation keeps the canonical form (Memory.wf). -/

namespace Sys2Proof.Machine

section Tables
variable {α : Type} {w : Nat} (v : Vector α (2 ^ w)) (i j : BitVec w) (x : α)

@[simp] theorem look_put_same : look (put v i x) i = x := by simp [look, put]

theorem look_put_ne (h : i ≠ j) : look (put v i x) j = look v j := by
  have h' : i.toNat ≠ j.toNat := fun e => h (BitVec.eq_of_toNat_eq e)
  simp [look, put, h']

theorem look_put : look (put v i x) j = if i = j then x else look v j := by
  split
  · next h => subst h; simp
  · next h => exact look_put_ne v i j x h

end Tables

section Cells
variable {α : Type} (l : List (Nat × α)) (k j : Nat) (v : α)

@[simp] theorem readCell_nil : readCell ([] : List (Nat × α)) k = none := rfl

/-- Reading an address just written gives the value written. -/
@[simp] theorem readCell_writeCell_same : readCell (writeCell l k v) k = some v := by
  induction l with
  | nil => simp [writeCell, readCell]
  | cons c rest ih =>
    simp only [writeCell]
    split
    · simp [readCell]
    · split
      · simp [readCell]
      · next h1 h2 => simp [readCell, Ne.symm h2, ih]

/-- A write leaves every other address alone. -/
theorem readCell_writeCell_ne (h : k ≠ j) : readCell (writeCell l k v) j = readCell l j := by
  induction l with
  | nil => simp [writeCell, readCell, h]
  | cons c rest ih =>
    simp only [writeCell]
    split
    · simp [readCell, h]
    · split
      · next h2 => subst h2; simp [readCell, h]
      · simp [readCell, ih]

theorem mem_writeCell (c : Nat × α) (h : c ∈ writeCell l k v) : c = (k, v) ∨ c ∈ l := by
  induction l with
  | nil => simpa [writeCell] using h
  | cons d rest ih =>
    simp only [writeCell] at h
    split at h
    · simpa using h
    · split at h
      · rcases List.mem_cons.mp h with h | h
        · exact .inl h
        · exact .inr (List.mem_cons_of_mem _ h)
      · rcases List.mem_cons.mp h with h | h
        · exact .inr (by simp [h])
        · rcases ih h with h | h
          · exact .inl h
          · exact .inr (List.mem_cons_of_mem _ h)

theorem writeCell_rising (h : l.Pairwise (fun c d => c.1 < d.1)) :
    (writeCell l k v).Pairwise (fun c d => c.1 < d.1) := by
  induction l with
  | nil => simp [writeCell]
  | cons c rest ih =>
    obtain ⟨hc, hr⟩ := List.pairwise_cons.mp h
    simp only [writeCell]
    split
    · next h1 =>
      refine List.pairwise_cons.mpr ⟨fun d hd => ?_, h⟩
      rcases List.mem_cons.mp hd with rfl | hd
      · exact h1
      · exact Nat.lt_trans h1 (hc d hd)
    · split
      · next h2 => exact List.pairwise_cons.mpr ⟨fun d hd => h2 ▸ hc d hd, hr⟩
      · next h1 h2 =>
        refine List.pairwise_cons.mpr ⟨fun d hd => ?_, ih hr⟩
        rcases mem_writeCell rest k v d hd with rfl | hd
        · show c.1 < k
          omega
        · exact hc d hd

/-- A write within the range keeps the canonical form of one memory. -/
theorem cellsWf_writeCell {n : Nat} (hk : k < n) (h : cellsWf n l) : cellsWf n (writeCell l k v) := by
  refine ⟨writeCell_rising l k v h.1, fun c hc => ?_⟩
  rcases mem_writeCell l k v c hc with rfl | hc
  · exact hk
  · exact h.2 c hc

end Cells

/-! ### The flat addresses are in range -/

theorem progKey_lt (rb : Bit) (a : Addr) : progKey rb a < 8192 := by
  have := rb.isLt; have := a.isLt; simp only [progKey]; omega

theorem halfKey_lt (rb : Bit) (a : Addr) (h : Half) : halfKey rb a h < 16384 := by
  have := progKey_lt rb a; cases h <;> simp only [halfKey] <;> omega

theorem ramchKey_lt (b : BankNo) (a : Byte) : ramchKey b a < 2048 := by
  have := b.isLt; have := a.isLt; simp only [ramchKey]; omega

theorem ramstKey_lt (b : BankNo) (a : Byte) (k : BitVec 2) : ramstKey b a k < 512 := by
  have := b.isLt; have := (upper a).isLt; have := k.isLt; simp only [ramstKey]; omega

theorem ramportKey_lt (b : BankNo) (a : Byte) : ramportKey b a < 32 := by
  have := b.isLt; have := (a.extractLsb' 6 2).isLt; simp only [ramportKey]; omega

theorem romportKey_lt (rb : Bit) (n : Nibble) : romportKey rb n < 32 := by
  have := rb.isLt; have := n.isLt; simp only [romportKey]; omega

/-! ### Every memory operation keeps the canonical form -/

theorem empty_wf : Memory.empty.wf := by decide

theorem reset_mem_wf : State.reset.mem.wf := empty_wf

theorem ram4002Write_wf {m : Memory} (h : m.wf) (b : BankNo) (a : Byte) (op : WriteOp) (v : Nibble) :
    (ram4002Write m b a op v).wf := by
  obtain ⟨h1, h2, h3, h4, h5, h6⟩ := h
  cases op
  · exact ⟨h1, h2, cellsWf_writeCell _ _ _ (ramchKey_lt _ _) h3, h4, h5, h6⟩
  · exact ⟨h1, h2, h3, h4, cellsWf_writeCell _ _ _ (ramportKey_lt _ _) h5, h6⟩
  all_goals exact ⟨h1, h2, h3, cellsWf_writeCell _ _ _ (ramstKey_lt _ _ _) h4, h5, h6⟩

theorem writeRomport_wf {m : Memory} (h : m.wf) (rb : Bit) (n v : Nibble) :
    Memory.wf { m with romport := writeCell m.romport (romportKey rb n) v } := by
  obtain ⟨h1, h2, h3, h4, h5, h6⟩ := h
  exact ⟨h1, h2, h3, h4, h5, cellsWf_writeCell _ _ _ (romportKey_lt _ _) h6⟩

theorem writeProgRam_wf {s : State} (h : s.mem.wf) (v : Nibble) : (writeProgRam s v).mem.wf := by
  simp only [writeProgRam]
  split
  · exact h
  · obtain ⟨h1, h2, h3, h4, h5, h6⟩ := h
    exact ⟨h1, cellsWf_writeCell _ _ _ (halfKey_lt _ _ _) h2, h3, h4, h5, h6⟩

theorem placeWord_wf {m : Memory} (h : m.wf) (p : Platform) (rb : Bit) (a : Addr) (w : Byte) :
    (placeWord m p rb a w).wf := by
  obtain ⟨h1, h2, h3, h4, h5, h6⟩ := h
  simp only [placeWord]
  split
  · exact ⟨h1, cellsWf_writeCell _ _ _ (halfKey_lt _ _ _) (cellsWf_writeCell _ _ _ (halfKey_lt _ _ _) h2), h3, h4, h5, h6⟩
  · exact ⟨cellsWf_writeCell _ _ _ (progKey_lt _ _) h1, h2, h3, h4, h5, h6⟩

theorem placeAtFetch_wf {s : State} (h : s.mem.wf) (w1 w2 : Byte) : (placeAtFetch s w1 w2).wf :=
  placeWord_wf (placeWord_wf h _ _ _ _) _ _ _ _

end Sys2Proof.Machine
end

