-- ==== Sys2Proof/Laws/State.lean ====
section
/-! SUPPORT. One lemma per field per named update of State, each true by rfl, so that no later proof unfolds an update. -/

namespace Sys2Proof.Machine

section AccUpdate
variable (s : State) (v : Nibble)
@[simp] theorem State.setAcc_plat : (s.setAcc v).plat = s.plat := rfl
@[simp] theorem State.setAcc_acc : (s.setAcc v).acc = v := rfl
@[simp] theorem State.setAcc_cy : (s.setAcc v).cy = s.cy := rfl
@[simp] theorem State.setAcc_ir : (s.setAcc v).ir = s.ir := rfl
@[simp] theorem State.setAcc_pc : (s.setAcc v).pc = s.pc := rfl
@[simp] theorem State.setAcc_stack : (s.setAcc v).stack = s.stack := rfl
@[simp] theorem State.setAcc_cr : (s.setAcc v).cr = s.cr := rfl
@[simp] theorem State.setAcc_bank : (s.setAcc v).bank = s.bank := rfl
@[simp] theorem State.setAcc_sb : (s.setAcc v).sb = s.sb := rfl
@[simp] theorem State.setAcc_ie : (s.setAcc v).ie = s.ie := rfl
@[simp] theorem State.setAcc_inService : (s.setAcc v).inService = s.inService := rfl
@[simp] theorem State.setAcc_halted : (s.setAcc v).halted = s.halted := rfl
@[simp] theorem State.setAcc_srcReg : (s.setAcc v).srcReg = s.srcReg := rfl
@[simp] theorem State.setAcc_sel : (s.setAcc v).sel = s.sel := rfl
@[simp] theorem State.setAcc_romSel : (s.setAcc v).romSel = s.romSel := rfl
@[simp] theorem State.setAcc_halfSel : (s.setAcc v).halfSel = s.halfSel := rfl
@[simp] theorem State.setAcc_mem : (s.setAcc v).mem = s.mem := rfl
@[simp] theorem State.setAcc_kd : (s.setAcc v).kd = s.kd := rfl
@[simp] theorem State.setAcc_io : (s.setAcc v).io = s.io := rfl
@[simp] theorem State.setAcc_inputs : (s.setAcc v).inputs = s.inputs := rfl
@[simp] theorem State.setAcc_clock : (s.setAcc v).clock = s.clock := rfl
end AccUpdate

section CyUpdate
variable (s : State) (v : Bit)
@[simp] theorem State.setCy_plat : (s.setCy v).plat = s.plat := rfl
@[simp] theorem State.setCy_acc : (s.setCy v).acc = s.acc := rfl
@[simp] theorem State.setCy_cy : (s.setCy v).cy = v := rfl
@[simp] theorem State.setCy_ir : (s.setCy v).ir = s.ir := rfl
@[simp] theorem State.setCy_pc : (s.setCy v).pc = s.pc := rfl
@[simp] theorem State.setCy_stack : (s.setCy v).stack = s.stack := rfl
@[simp] theorem State.setCy_cr : (s.setCy v).cr = s.cr := rfl
@[simp] theorem State.setCy_bank : (s.setCy v).bank = s.bank := rfl
@[simp] theorem State.setCy_sb : (s.setCy v).sb = s.sb := rfl
@[simp] theorem State.setCy_ie : (s.setCy v).ie = s.ie := rfl
@[simp] theorem State.setCy_inService : (s.setCy v).inService = s.inService := rfl
@[simp] theorem State.setCy_halted : (s.setCy v).halted = s.halted := rfl
@[simp] theorem State.setCy_srcReg : (s.setCy v).srcReg = s.srcReg := rfl
@[simp] theorem State.setCy_sel : (s.setCy v).sel = s.sel := rfl
@[simp] theorem State.setCy_romSel : (s.setCy v).romSel = s.romSel := rfl
@[simp] theorem State.setCy_halfSel : (s.setCy v).halfSel = s.halfSel := rfl
@[simp] theorem State.setCy_mem : (s.setCy v).mem = s.mem := rfl
@[simp] theorem State.setCy_kd : (s.setCy v).kd = s.kd := rfl
@[simp] theorem State.setCy_io : (s.setCy v).io = s.io := rfl
@[simp] theorem State.setCy_inputs : (s.setCy v).inputs = s.inputs := rfl
@[simp] theorem State.setCy_clock : (s.setCy v).clock = s.clock := rfl
end CyUpdate

section IrUpdate
variable (s : State) (v : RegFile)
@[simp] theorem State.setIr_plat : (s.setIr v).plat = s.plat := rfl
@[simp] theorem State.setIr_acc : (s.setIr v).acc = s.acc := rfl
@[simp] theorem State.setIr_cy : (s.setIr v).cy = s.cy := rfl
@[simp] theorem State.setIr_ir : (s.setIr v).ir = v := rfl
@[simp] theorem State.setIr_pc : (s.setIr v).pc = s.pc := rfl
@[simp] theorem State.setIr_stack : (s.setIr v).stack = s.stack := rfl
@[simp] theorem State.setIr_cr : (s.setIr v).cr = s.cr := rfl
@[simp] theorem State.setIr_bank : (s.setIr v).bank = s.bank := rfl
@[simp] theorem State.setIr_sb : (s.setIr v).sb = s.sb := rfl
@[simp] theorem State.setIr_ie : (s.setIr v).ie = s.ie := rfl
@[simp] theorem State.setIr_inService : (s.setIr v).inService = s.inService := rfl
@[simp] theorem State.setIr_halted : (s.setIr v).halted = s.halted := rfl
@[simp] theorem State.setIr_srcReg : (s.setIr v).srcReg = s.srcReg := rfl
@[simp] theorem State.setIr_sel : (s.setIr v).sel = s.sel := rfl
@[simp] theorem State.setIr_romSel : (s.setIr v).romSel = s.romSel := rfl
@[simp] theorem State.setIr_halfSel : (s.setIr v).halfSel = s.halfSel := rfl
@[simp] theorem State.setIr_mem : (s.setIr v).mem = s.mem := rfl
@[simp] theorem State.setIr_kd : (s.setIr v).kd = s.kd := rfl
@[simp] theorem State.setIr_io : (s.setIr v).io = s.io := rfl
@[simp] theorem State.setIr_inputs : (s.setIr v).inputs = s.inputs := rfl
@[simp] theorem State.setIr_clock : (s.setIr v).clock = s.clock := rfl
end IrUpdate

section PcUpdate
variable (s : State) (v : Addr)
@[simp] theorem State.setPc_plat : (s.setPc v).plat = s.plat := rfl
@[simp] theorem State.setPc_acc : (s.setPc v).acc = s.acc := rfl
@[simp] theorem State.setPc_cy : (s.setPc v).cy = s.cy := rfl
@[simp] theorem State.setPc_ir : (s.setPc v).ir = s.ir := rfl
@[simp] theorem State.setPc_pc : (s.setPc v).pc = v := rfl
@[simp] theorem State.setPc_stack : (s.setPc v).stack = s.stack := rfl
@[simp] theorem State.setPc_cr : (s.setPc v).cr = s.cr := rfl
@[simp] theorem State.setPc_bank : (s.setPc v).bank = s.bank := rfl
@[simp] theorem State.setPc_sb : (s.setPc v).sb = s.sb := rfl
@[simp] theorem State.setPc_ie : (s.setPc v).ie = s.ie := rfl
@[simp] theorem State.setPc_inService : (s.setPc v).inService = s.inService := rfl
@[simp] theorem State.setPc_halted : (s.setPc v).halted = s.halted := rfl
@[simp] theorem State.setPc_srcReg : (s.setPc v).srcReg = s.srcReg := rfl
@[simp] theorem State.setPc_sel : (s.setPc v).sel = s.sel := rfl
@[simp] theorem State.setPc_romSel : (s.setPc v).romSel = s.romSel := rfl
@[simp] theorem State.setPc_halfSel : (s.setPc v).halfSel = s.halfSel := rfl
@[simp] theorem State.setPc_mem : (s.setPc v).mem = s.mem := rfl
@[simp] theorem State.setPc_kd : (s.setPc v).kd = s.kd := rfl
@[simp] theorem State.setPc_io : (s.setPc v).io = s.io := rfl
@[simp] theorem State.setPc_inputs : (s.setPc v).inputs = s.inputs := rfl
@[simp] theorem State.setPc_clock : (s.setPc v).clock = s.clock := rfl
end PcUpdate

section StackUpdate
variable (s : State) (v : Stack)
@[simp] theorem State.setStack_plat : (s.setStack v).plat = s.plat := rfl
@[simp] theorem State.setStack_acc : (s.setStack v).acc = s.acc := rfl
@[simp] theorem State.setStack_cy : (s.setStack v).cy = s.cy := rfl
@[simp] theorem State.setStack_ir : (s.setStack v).ir = s.ir := rfl
@[simp] theorem State.setStack_pc : (s.setStack v).pc = s.pc := rfl
@[simp] theorem State.setStack_stack : (s.setStack v).stack = v := rfl
@[simp] theorem State.setStack_cr : (s.setStack v).cr = s.cr := rfl
@[simp] theorem State.setStack_bank : (s.setStack v).bank = s.bank := rfl
@[simp] theorem State.setStack_sb : (s.setStack v).sb = s.sb := rfl
@[simp] theorem State.setStack_ie : (s.setStack v).ie = s.ie := rfl
@[simp] theorem State.setStack_inService : (s.setStack v).inService = s.inService := rfl
@[simp] theorem State.setStack_halted : (s.setStack v).halted = s.halted := rfl
@[simp] theorem State.setStack_srcReg : (s.setStack v).srcReg = s.srcReg := rfl
@[simp] theorem State.setStack_sel : (s.setStack v).sel = s.sel := rfl
@[simp] theorem State.setStack_romSel : (s.setStack v).romSel = s.romSel := rfl
@[simp] theorem State.setStack_halfSel : (s.setStack v).halfSel = s.halfSel := rfl
@[simp] theorem State.setStack_mem : (s.setStack v).mem = s.mem := rfl
@[simp] theorem State.setStack_kd : (s.setStack v).kd = s.kd := rfl
@[simp] theorem State.setStack_io : (s.setStack v).io = s.io := rfl
@[simp] theorem State.setStack_inputs : (s.setStack v).inputs = s.inputs := rfl
@[simp] theorem State.setStack_clock : (s.setStack v).clock = s.clock := rfl
end StackUpdate

section CrUpdate
variable (s : State) (v : BankNo)
@[simp] theorem State.setCr_plat : (s.setCr v).plat = s.plat := rfl
@[simp] theorem State.setCr_acc : (s.setCr v).acc = s.acc := rfl
@[simp] theorem State.setCr_cy : (s.setCr v).cy = s.cy := rfl
@[simp] theorem State.setCr_ir : (s.setCr v).ir = s.ir := rfl
@[simp] theorem State.setCr_pc : (s.setCr v).pc = s.pc := rfl
@[simp] theorem State.setCr_stack : (s.setCr v).stack = s.stack := rfl
@[simp] theorem State.setCr_cr : (s.setCr v).cr = v := rfl
@[simp] theorem State.setCr_bank : (s.setCr v).bank = s.bank := rfl
@[simp] theorem State.setCr_sb : (s.setCr v).sb = s.sb := rfl
@[simp] theorem State.setCr_ie : (s.setCr v).ie = s.ie := rfl
@[simp] theorem State.setCr_inService : (s.setCr v).inService = s.inService := rfl
@[simp] theorem State.setCr_halted : (s.setCr v).halted = s.halted := rfl
@[simp] theorem State.setCr_srcReg : (s.setCr v).srcReg = s.srcReg := rfl
@[simp] theorem State.setCr_sel : (s.setCr v).sel = s.sel := rfl
@[simp] theorem State.setCr_romSel : (s.setCr v).romSel = s.romSel := rfl
@[simp] theorem State.setCr_halfSel : (s.setCr v).halfSel = s.halfSel := rfl
@[simp] theorem State.setCr_mem : (s.setCr v).mem = s.mem := rfl
@[simp] theorem State.setCr_kd : (s.setCr v).kd = s.kd := rfl
@[simp] theorem State.setCr_io : (s.setCr v).io = s.io := rfl
@[simp] theorem State.setCr_inputs : (s.setCr v).inputs = s.inputs := rfl
@[simp] theorem State.setCr_clock : (s.setCr v).clock = s.clock := rfl
end CrUpdate

section BankUpdate
variable (s : State) (v : RomBank)
@[simp] theorem State.setBank_plat : (s.setBank v).plat = s.plat := rfl
@[simp] theorem State.setBank_acc : (s.setBank v).acc = s.acc := rfl
@[simp] theorem State.setBank_cy : (s.setBank v).cy = s.cy := rfl
@[simp] theorem State.setBank_ir : (s.setBank v).ir = s.ir := rfl
@[simp] theorem State.setBank_pc : (s.setBank v).pc = s.pc := rfl
@[simp] theorem State.setBank_stack : (s.setBank v).stack = s.stack := rfl
@[simp] theorem State.setBank_cr : (s.setBank v).cr = s.cr := rfl
@[simp] theorem State.setBank_bank : (s.setBank v).bank = v := rfl
@[simp] theorem State.setBank_sb : (s.setBank v).sb = s.sb := rfl
@[simp] theorem State.setBank_ie : (s.setBank v).ie = s.ie := rfl
@[simp] theorem State.setBank_inService : (s.setBank v).inService = s.inService := rfl
@[simp] theorem State.setBank_halted : (s.setBank v).halted = s.halted := rfl
@[simp] theorem State.setBank_srcReg : (s.setBank v).srcReg = s.srcReg := rfl
@[simp] theorem State.setBank_sel : (s.setBank v).sel = s.sel := rfl
@[simp] theorem State.setBank_romSel : (s.setBank v).romSel = s.romSel := rfl
@[simp] theorem State.setBank_halfSel : (s.setBank v).halfSel = s.halfSel := rfl
@[simp] theorem State.setBank_mem : (s.setBank v).mem = s.mem := rfl
@[simp] theorem State.setBank_kd : (s.setBank v).kd = s.kd := rfl
@[simp] theorem State.setBank_io : (s.setBank v).io = s.io := rfl
@[simp] theorem State.setBank_inputs : (s.setBank v).inputs = s.inputs := rfl
@[simp] theorem State.setBank_clock : (s.setBank v).clock = s.clock := rfl
end BankUpdate

section SbUpdate
variable (s : State) (v : Bit)
@[simp] theorem State.setSb_plat : (s.setSb v).plat = s.plat := rfl
@[simp] theorem State.setSb_acc : (s.setSb v).acc = s.acc := rfl
@[simp] theorem State.setSb_cy : (s.setSb v).cy = s.cy := rfl
@[simp] theorem State.setSb_ir : (s.setSb v).ir = s.ir := rfl
@[simp] theorem State.setSb_pc : (s.setSb v).pc = s.pc := rfl
@[simp] theorem State.setSb_stack : (s.setSb v).stack = s.stack := rfl
@[simp] theorem State.setSb_cr : (s.setSb v).cr = s.cr := rfl
@[simp] theorem State.setSb_bank : (s.setSb v).bank = s.bank := rfl
@[simp] theorem State.setSb_sb : (s.setSb v).sb = v := rfl
@[simp] theorem State.setSb_ie : (s.setSb v).ie = s.ie := rfl
@[simp] theorem State.setSb_inService : (s.setSb v).inService = s.inService := rfl
@[simp] theorem State.setSb_halted : (s.setSb v).halted = s.halted := rfl
@[simp] theorem State.setSb_srcReg : (s.setSb v).srcReg = s.srcReg := rfl
@[simp] theorem State.setSb_sel : (s.setSb v).sel = s.sel := rfl
@[simp] theorem State.setSb_romSel : (s.setSb v).romSel = s.romSel := rfl
@[simp] theorem State.setSb_halfSel : (s.setSb v).halfSel = s.halfSel := rfl
@[simp] theorem State.setSb_mem : (s.setSb v).mem = s.mem := rfl
@[simp] theorem State.setSb_kd : (s.setSb v).kd = s.kd := rfl
@[simp] theorem State.setSb_io : (s.setSb v).io = s.io := rfl
@[simp] theorem State.setSb_inputs : (s.setSb v).inputs = s.inputs := rfl
@[simp] theorem State.setSb_clock : (s.setSb v).clock = s.clock := rfl
end SbUpdate

section IeUpdate
variable (s : State) (v : Bool)
@[simp] theorem State.setIe_plat : (s.setIe v).plat = s.plat := rfl
@[simp] theorem State.setIe_acc : (s.setIe v).acc = s.acc := rfl
@[simp] theorem State.setIe_cy : (s.setIe v).cy = s.cy := rfl
@[simp] theorem State.setIe_ir : (s.setIe v).ir = s.ir := rfl
@[simp] theorem State.setIe_pc : (s.setIe v).pc = s.pc := rfl
@[simp] theorem State.setIe_stack : (s.setIe v).stack = s.stack := rfl
@[simp] theorem State.setIe_cr : (s.setIe v).cr = s.cr := rfl
@[simp] theorem State.setIe_bank : (s.setIe v).bank = s.bank := rfl
@[simp] theorem State.setIe_sb : (s.setIe v).sb = s.sb := rfl
@[simp] theorem State.setIe_ie : (s.setIe v).ie = v := rfl
@[simp] theorem State.setIe_inService : (s.setIe v).inService = s.inService := rfl
@[simp] theorem State.setIe_halted : (s.setIe v).halted = s.halted := rfl
@[simp] theorem State.setIe_srcReg : (s.setIe v).srcReg = s.srcReg := rfl
@[simp] theorem State.setIe_sel : (s.setIe v).sel = s.sel := rfl
@[simp] theorem State.setIe_romSel : (s.setIe v).romSel = s.romSel := rfl
@[simp] theorem State.setIe_halfSel : (s.setIe v).halfSel = s.halfSel := rfl
@[simp] theorem State.setIe_mem : (s.setIe v).mem = s.mem := rfl
@[simp] theorem State.setIe_kd : (s.setIe v).kd = s.kd := rfl
@[simp] theorem State.setIe_io : (s.setIe v).io = s.io := rfl
@[simp] theorem State.setIe_inputs : (s.setIe v).inputs = s.inputs := rfl
@[simp] theorem State.setIe_clock : (s.setIe v).clock = s.clock := rfl
end IeUpdate

section InServiceUpdate
variable (s : State) (v : Bool)
@[simp] theorem State.setInService_plat : (s.setInService v).plat = s.plat := rfl
@[simp] theorem State.setInService_acc : (s.setInService v).acc = s.acc := rfl
@[simp] theorem State.setInService_cy : (s.setInService v).cy = s.cy := rfl
@[simp] theorem State.setInService_ir : (s.setInService v).ir = s.ir := rfl
@[simp] theorem State.setInService_pc : (s.setInService v).pc = s.pc := rfl
@[simp] theorem State.setInService_stack : (s.setInService v).stack = s.stack := rfl
@[simp] theorem State.setInService_cr : (s.setInService v).cr = s.cr := rfl
@[simp] theorem State.setInService_bank : (s.setInService v).bank = s.bank := rfl
@[simp] theorem State.setInService_sb : (s.setInService v).sb = s.sb := rfl
@[simp] theorem State.setInService_ie : (s.setInService v).ie = s.ie := rfl
@[simp] theorem State.setInService_inService : (s.setInService v).inService = v := rfl
@[simp] theorem State.setInService_halted : (s.setInService v).halted = s.halted := rfl
@[simp] theorem State.setInService_srcReg : (s.setInService v).srcReg = s.srcReg := rfl
@[simp] theorem State.setInService_sel : (s.setInService v).sel = s.sel := rfl
@[simp] theorem State.setInService_romSel : (s.setInService v).romSel = s.romSel := rfl
@[simp] theorem State.setInService_halfSel : (s.setInService v).halfSel = s.halfSel := rfl
@[simp] theorem State.setInService_mem : (s.setInService v).mem = s.mem := rfl
@[simp] theorem State.setInService_kd : (s.setInService v).kd = s.kd := rfl
@[simp] theorem State.setInService_io : (s.setInService v).io = s.io := rfl
@[simp] theorem State.setInService_inputs : (s.setInService v).inputs = s.inputs := rfl
@[simp] theorem State.setInService_clock : (s.setInService v).clock = s.clock := rfl
end InServiceUpdate

section HaltedUpdate
variable (s : State) (v : Bool)
@[simp] theorem State.setHalted_plat : (s.setHalted v).plat = s.plat := rfl
@[simp] theorem State.setHalted_acc : (s.setHalted v).acc = s.acc := rfl
@[simp] theorem State.setHalted_cy : (s.setHalted v).cy = s.cy := rfl
@[simp] theorem State.setHalted_ir : (s.setHalted v).ir = s.ir := rfl
@[simp] theorem State.setHalted_pc : (s.setHalted v).pc = s.pc := rfl
@[simp] theorem State.setHalted_stack : (s.setHalted v).stack = s.stack := rfl
@[simp] theorem State.setHalted_cr : (s.setHalted v).cr = s.cr := rfl
@[simp] theorem State.setHalted_bank : (s.setHalted v).bank = s.bank := rfl
@[simp] theorem State.setHalted_sb : (s.setHalted v).sb = s.sb := rfl
@[simp] theorem State.setHalted_ie : (s.setHalted v).ie = s.ie := rfl
@[simp] theorem State.setHalted_inService : (s.setHalted v).inService = s.inService := rfl
@[simp] theorem State.setHalted_halted : (s.setHalted v).halted = v := rfl
@[simp] theorem State.setHalted_srcReg : (s.setHalted v).srcReg = s.srcReg := rfl
@[simp] theorem State.setHalted_sel : (s.setHalted v).sel = s.sel := rfl
@[simp] theorem State.setHalted_romSel : (s.setHalted v).romSel = s.romSel := rfl
@[simp] theorem State.setHalted_halfSel : (s.setHalted v).halfSel = s.halfSel := rfl
@[simp] theorem State.setHalted_mem : (s.setHalted v).mem = s.mem := rfl
@[simp] theorem State.setHalted_kd : (s.setHalted v).kd = s.kd := rfl
@[simp] theorem State.setHalted_io : (s.setHalted v).io = s.io := rfl
@[simp] theorem State.setHalted_inputs : (s.setHalted v).inputs = s.inputs := rfl
@[simp] theorem State.setHalted_clock : (s.setHalted v).clock = s.clock := rfl
end HaltedUpdate

section SrcRegUpdate
variable (s : State) (v : Option Byte)
@[simp] theorem State.setSrcReg_plat : (s.setSrcReg v).plat = s.plat := rfl
@[simp] theorem State.setSrcReg_acc : (s.setSrcReg v).acc = s.acc := rfl
@[simp] theorem State.setSrcReg_cy : (s.setSrcReg v).cy = s.cy := rfl
@[simp] theorem State.setSrcReg_ir : (s.setSrcReg v).ir = s.ir := rfl
@[simp] theorem State.setSrcReg_pc : (s.setSrcReg v).pc = s.pc := rfl
@[simp] theorem State.setSrcReg_stack : (s.setSrcReg v).stack = s.stack := rfl
@[simp] theorem State.setSrcReg_cr : (s.setSrcReg v).cr = s.cr := rfl
@[simp] theorem State.setSrcReg_bank : (s.setSrcReg v).bank = s.bank := rfl
@[simp] theorem State.setSrcReg_sb : (s.setSrcReg v).sb = s.sb := rfl
@[simp] theorem State.setSrcReg_ie : (s.setSrcReg v).ie = s.ie := rfl
@[simp] theorem State.setSrcReg_inService : (s.setSrcReg v).inService = s.inService := rfl
@[simp] theorem State.setSrcReg_halted : (s.setSrcReg v).halted = s.halted := rfl
@[simp] theorem State.setSrcReg_srcReg : (s.setSrcReg v).srcReg = v := rfl
@[simp] theorem State.setSrcReg_sel : (s.setSrcReg v).sel = s.sel := rfl
@[simp] theorem State.setSrcReg_romSel : (s.setSrcReg v).romSel = s.romSel := rfl
@[simp] theorem State.setSrcReg_halfSel : (s.setSrcReg v).halfSel = s.halfSel := rfl
@[simp] theorem State.setSrcReg_mem : (s.setSrcReg v).mem = s.mem := rfl
@[simp] theorem State.setSrcReg_kd : (s.setSrcReg v).kd = s.kd := rfl
@[simp] theorem State.setSrcReg_io : (s.setSrcReg v).io = s.io := rfl
@[simp] theorem State.setSrcReg_inputs : (s.setSrcReg v).inputs = s.inputs := rfl
@[simp] theorem State.setSrcReg_clock : (s.setSrcReg v).clock = s.clock := rfl
end SrcRegUpdate

section SelUpdate
variable (s : State) (v : Vector (Option Byte) 8)
@[simp] theorem State.setSel_plat : (s.setSel v).plat = s.plat := rfl
@[simp] theorem State.setSel_acc : (s.setSel v).acc = s.acc := rfl
@[simp] theorem State.setSel_cy : (s.setSel v).cy = s.cy := rfl
@[simp] theorem State.setSel_ir : (s.setSel v).ir = s.ir := rfl
@[simp] theorem State.setSel_pc : (s.setSel v).pc = s.pc := rfl
@[simp] theorem State.setSel_stack : (s.setSel v).stack = s.stack := rfl
@[simp] theorem State.setSel_cr : (s.setSel v).cr = s.cr := rfl
@[simp] theorem State.setSel_bank : (s.setSel v).bank = s.bank := rfl
@[simp] theorem State.setSel_sb : (s.setSel v).sb = s.sb := rfl
@[simp] theorem State.setSel_ie : (s.setSel v).ie = s.ie := rfl
@[simp] theorem State.setSel_inService : (s.setSel v).inService = s.inService := rfl
@[simp] theorem State.setSel_halted : (s.setSel v).halted = s.halted := rfl
@[simp] theorem State.setSel_srcReg : (s.setSel v).srcReg = s.srcReg := rfl
@[simp] theorem State.setSel_sel : (s.setSel v).sel = v := rfl
@[simp] theorem State.setSel_romSel : (s.setSel v).romSel = s.romSel := rfl
@[simp] theorem State.setSel_halfSel : (s.setSel v).halfSel = s.halfSel := rfl
@[simp] theorem State.setSel_mem : (s.setSel v).mem = s.mem := rfl
@[simp] theorem State.setSel_kd : (s.setSel v).kd = s.kd := rfl
@[simp] theorem State.setSel_io : (s.setSel v).io = s.io := rfl
@[simp] theorem State.setSel_inputs : (s.setSel v).inputs = s.inputs := rfl
@[simp] theorem State.setSel_clock : (s.setSel v).clock = s.clock := rfl
end SelUpdate

section RomSelUpdate
variable (s : State) (v : Vector (Option Byte) 2)
@[simp] theorem State.setRomSel_plat : (s.setRomSel v).plat = s.plat := rfl
@[simp] theorem State.setRomSel_acc : (s.setRomSel v).acc = s.acc := rfl
@[simp] theorem State.setRomSel_cy : (s.setRomSel v).cy = s.cy := rfl
@[simp] theorem State.setRomSel_ir : (s.setRomSel v).ir = s.ir := rfl
@[simp] theorem State.setRomSel_pc : (s.setRomSel v).pc = s.pc := rfl
@[simp] theorem State.setRomSel_stack : (s.setRomSel v).stack = s.stack := rfl
@[simp] theorem State.setRomSel_cr : (s.setRomSel v).cr = s.cr := rfl
@[simp] theorem State.setRomSel_bank : (s.setRomSel v).bank = s.bank := rfl
@[simp] theorem State.setRomSel_sb : (s.setRomSel v).sb = s.sb := rfl
@[simp] theorem State.setRomSel_ie : (s.setRomSel v).ie = s.ie := rfl
@[simp] theorem State.setRomSel_inService : (s.setRomSel v).inService = s.inService := rfl
@[simp] theorem State.setRomSel_halted : (s.setRomSel v).halted = s.halted := rfl
@[simp] theorem State.setRomSel_srcReg : (s.setRomSel v).srcReg = s.srcReg := rfl
@[simp] theorem State.setRomSel_sel : (s.setRomSel v).sel = s.sel := rfl
@[simp] theorem State.setRomSel_romSel : (s.setRomSel v).romSel = v := rfl
@[simp] theorem State.setRomSel_halfSel : (s.setRomSel v).halfSel = s.halfSel := rfl
@[simp] theorem State.setRomSel_mem : (s.setRomSel v).mem = s.mem := rfl
@[simp] theorem State.setRomSel_kd : (s.setRomSel v).kd = s.kd := rfl
@[simp] theorem State.setRomSel_io : (s.setRomSel v).io = s.io := rfl
@[simp] theorem State.setRomSel_inputs : (s.setRomSel v).inputs = s.inputs := rfl
@[simp] theorem State.setRomSel_clock : (s.setRomSel v).clock = s.clock := rfl
end RomSelUpdate

section HalfSelUpdate
variable (s : State) (v : Half)
@[simp] theorem State.setHalfSel_plat : (s.setHalfSel v).plat = s.plat := rfl
@[simp] theorem State.setHalfSel_acc : (s.setHalfSel v).acc = s.acc := rfl
@[simp] theorem State.setHalfSel_cy : (s.setHalfSel v).cy = s.cy := rfl
@[simp] theorem State.setHalfSel_ir : (s.setHalfSel v).ir = s.ir := rfl
@[simp] theorem State.setHalfSel_pc : (s.setHalfSel v).pc = s.pc := rfl
@[simp] theorem State.setHalfSel_stack : (s.setHalfSel v).stack = s.stack := rfl
@[simp] theorem State.setHalfSel_cr : (s.setHalfSel v).cr = s.cr := rfl
@[simp] theorem State.setHalfSel_bank : (s.setHalfSel v).bank = s.bank := rfl
@[simp] theorem State.setHalfSel_sb : (s.setHalfSel v).sb = s.sb := rfl
@[simp] theorem State.setHalfSel_ie : (s.setHalfSel v).ie = s.ie := rfl
@[simp] theorem State.setHalfSel_inService : (s.setHalfSel v).inService = s.inService := rfl
@[simp] theorem State.setHalfSel_halted : (s.setHalfSel v).halted = s.halted := rfl
@[simp] theorem State.setHalfSel_srcReg : (s.setHalfSel v).srcReg = s.srcReg := rfl
@[simp] theorem State.setHalfSel_sel : (s.setHalfSel v).sel = s.sel := rfl
@[simp] theorem State.setHalfSel_romSel : (s.setHalfSel v).romSel = s.romSel := rfl
@[simp] theorem State.setHalfSel_halfSel : (s.setHalfSel v).halfSel = v := rfl
@[simp] theorem State.setHalfSel_mem : (s.setHalfSel v).mem = s.mem := rfl
@[simp] theorem State.setHalfSel_kd : (s.setHalfSel v).kd = s.kd := rfl
@[simp] theorem State.setHalfSel_io : (s.setHalfSel v).io = s.io := rfl
@[simp] theorem State.setHalfSel_inputs : (s.setHalfSel v).inputs = s.inputs := rfl
@[simp] theorem State.setHalfSel_clock : (s.setHalfSel v).clock = s.clock := rfl
end HalfSelUpdate

section MemUpdate
variable (s : State) (v : Memory)
@[simp] theorem State.setMem_plat : (s.setMem v).plat = s.plat := rfl
@[simp] theorem State.setMem_acc : (s.setMem v).acc = s.acc := rfl
@[simp] theorem State.setMem_cy : (s.setMem v).cy = s.cy := rfl
@[simp] theorem State.setMem_ir : (s.setMem v).ir = s.ir := rfl
@[simp] theorem State.setMem_pc : (s.setMem v).pc = s.pc := rfl
@[simp] theorem State.setMem_stack : (s.setMem v).stack = s.stack := rfl
@[simp] theorem State.setMem_cr : (s.setMem v).cr = s.cr := rfl
@[simp] theorem State.setMem_bank : (s.setMem v).bank = s.bank := rfl
@[simp] theorem State.setMem_sb : (s.setMem v).sb = s.sb := rfl
@[simp] theorem State.setMem_ie : (s.setMem v).ie = s.ie := rfl
@[simp] theorem State.setMem_inService : (s.setMem v).inService = s.inService := rfl
@[simp] theorem State.setMem_halted : (s.setMem v).halted = s.halted := rfl
@[simp] theorem State.setMem_srcReg : (s.setMem v).srcReg = s.srcReg := rfl
@[simp] theorem State.setMem_sel : (s.setMem v).sel = s.sel := rfl
@[simp] theorem State.setMem_romSel : (s.setMem v).romSel = s.romSel := rfl
@[simp] theorem State.setMem_halfSel : (s.setMem v).halfSel = s.halfSel := rfl
@[simp] theorem State.setMem_mem : (s.setMem v).mem = v := rfl
@[simp] theorem State.setMem_kd : (s.setMem v).kd = s.kd := rfl
@[simp] theorem State.setMem_io : (s.setMem v).io = s.io := rfl
@[simp] theorem State.setMem_inputs : (s.setMem v).inputs = s.inputs := rfl
@[simp] theorem State.setMem_clock : (s.setMem v).clock = s.clock := rfl
end MemUpdate

section KdUpdate
variable (s : State) (v : Vector Kd4269 8)
@[simp] theorem State.setKd_plat : (s.setKd v).plat = s.plat := rfl
@[simp] theorem State.setKd_acc : (s.setKd v).acc = s.acc := rfl
@[simp] theorem State.setKd_cy : (s.setKd v).cy = s.cy := rfl
@[simp] theorem State.setKd_ir : (s.setKd v).ir = s.ir := rfl
@[simp] theorem State.setKd_pc : (s.setKd v).pc = s.pc := rfl
@[simp] theorem State.setKd_stack : (s.setKd v).stack = s.stack := rfl
@[simp] theorem State.setKd_cr : (s.setKd v).cr = s.cr := rfl
@[simp] theorem State.setKd_bank : (s.setKd v).bank = s.bank := rfl
@[simp] theorem State.setKd_sb : (s.setKd v).sb = s.sb := rfl
@[simp] theorem State.setKd_ie : (s.setKd v).ie = s.ie := rfl
@[simp] theorem State.setKd_inService : (s.setKd v).inService = s.inService := rfl
@[simp] theorem State.setKd_halted : (s.setKd v).halted = s.halted := rfl
@[simp] theorem State.setKd_srcReg : (s.setKd v).srcReg = s.srcReg := rfl
@[simp] theorem State.setKd_sel : (s.setKd v).sel = s.sel := rfl
@[simp] theorem State.setKd_romSel : (s.setKd v).romSel = s.romSel := rfl
@[simp] theorem State.setKd_halfSel : (s.setKd v).halfSel = s.halfSel := rfl
@[simp] theorem State.setKd_mem : (s.setKd v).mem = s.mem := rfl
@[simp] theorem State.setKd_kd : (s.setKd v).kd = v := rfl
@[simp] theorem State.setKd_io : (s.setKd v).io = s.io := rfl
@[simp] theorem State.setKd_inputs : (s.setKd v).inputs = s.inputs := rfl
@[simp] theorem State.setKd_clock : (s.setKd v).clock = s.clock := rfl
end KdUpdate

section IoUpdate
variable (s : State) (v : Vector Io4265 16)
@[simp] theorem State.setIo_plat : (s.setIo v).plat = s.plat := rfl
@[simp] theorem State.setIo_acc : (s.setIo v).acc = s.acc := rfl
@[simp] theorem State.setIo_cy : (s.setIo v).cy = s.cy := rfl
@[simp] theorem State.setIo_ir : (s.setIo v).ir = s.ir := rfl
@[simp] theorem State.setIo_pc : (s.setIo v).pc = s.pc := rfl
@[simp] theorem State.setIo_stack : (s.setIo v).stack = s.stack := rfl
@[simp] theorem State.setIo_cr : (s.setIo v).cr = s.cr := rfl
@[simp] theorem State.setIo_bank : (s.setIo v).bank = s.bank := rfl
@[simp] theorem State.setIo_sb : (s.setIo v).sb = s.sb := rfl
@[simp] theorem State.setIo_ie : (s.setIo v).ie = s.ie := rfl
@[simp] theorem State.setIo_inService : (s.setIo v).inService = s.inService := rfl
@[simp] theorem State.setIo_halted : (s.setIo v).halted = s.halted := rfl
@[simp] theorem State.setIo_srcReg : (s.setIo v).srcReg = s.srcReg := rfl
@[simp] theorem State.setIo_sel : (s.setIo v).sel = s.sel := rfl
@[simp] theorem State.setIo_romSel : (s.setIo v).romSel = s.romSel := rfl
@[simp] theorem State.setIo_halfSel : (s.setIo v).halfSel = s.halfSel := rfl
@[simp] theorem State.setIo_mem : (s.setIo v).mem = s.mem := rfl
@[simp] theorem State.setIo_kd : (s.setIo v).kd = s.kd := rfl
@[simp] theorem State.setIo_io : (s.setIo v).io = v := rfl
@[simp] theorem State.setIo_inputs : (s.setIo v).inputs = s.inputs := rfl
@[simp] theorem State.setIo_clock : (s.setIo v).clock = s.clock := rfl
end IoUpdate

section InputsUpdate
variable (s : State) (v : List Inputs)
@[simp] theorem State.setInputs_plat : (s.setInputs v).plat = s.plat := rfl
@[simp] theorem State.setInputs_acc : (s.setInputs v).acc = s.acc := rfl
@[simp] theorem State.setInputs_cy : (s.setInputs v).cy = s.cy := rfl
@[simp] theorem State.setInputs_ir : (s.setInputs v).ir = s.ir := rfl
@[simp] theorem State.setInputs_pc : (s.setInputs v).pc = s.pc := rfl
@[simp] theorem State.setInputs_stack : (s.setInputs v).stack = s.stack := rfl
@[simp] theorem State.setInputs_cr : (s.setInputs v).cr = s.cr := rfl
@[simp] theorem State.setInputs_bank : (s.setInputs v).bank = s.bank := rfl
@[simp] theorem State.setInputs_sb : (s.setInputs v).sb = s.sb := rfl
@[simp] theorem State.setInputs_ie : (s.setInputs v).ie = s.ie := rfl
@[simp] theorem State.setInputs_inService : (s.setInputs v).inService = s.inService := rfl
@[simp] theorem State.setInputs_halted : (s.setInputs v).halted = s.halted := rfl
@[simp] theorem State.setInputs_srcReg : (s.setInputs v).srcReg = s.srcReg := rfl
@[simp] theorem State.setInputs_sel : (s.setInputs v).sel = s.sel := rfl
@[simp] theorem State.setInputs_romSel : (s.setInputs v).romSel = s.romSel := rfl
@[simp] theorem State.setInputs_halfSel : (s.setInputs v).halfSel = s.halfSel := rfl
@[simp] theorem State.setInputs_mem : (s.setInputs v).mem = s.mem := rfl
@[simp] theorem State.setInputs_kd : (s.setInputs v).kd = s.kd := rfl
@[simp] theorem State.setInputs_io : (s.setInputs v).io = s.io := rfl
@[simp] theorem State.setInputs_inputs : (s.setInputs v).inputs = v := rfl
@[simp] theorem State.setInputs_clock : (s.setInputs v).clock = s.clock := rfl
end InputsUpdate

section ClockUpdate
variable (s : State) (v : Nat)
@[simp] theorem State.setClock_plat : (s.setClock v).plat = s.plat := rfl
@[simp] theorem State.setClock_acc : (s.setClock v).acc = s.acc := rfl
@[simp] theorem State.setClock_cy : (s.setClock v).cy = s.cy := rfl
@[simp] theorem State.setClock_ir : (s.setClock v).ir = s.ir := rfl
@[simp] theorem State.setClock_pc : (s.setClock v).pc = s.pc := rfl
@[simp] theorem State.setClock_stack : (s.setClock v).stack = s.stack := rfl
@[simp] theorem State.setClock_cr : (s.setClock v).cr = s.cr := rfl
@[simp] theorem State.setClock_bank : (s.setClock v).bank = s.bank := rfl
@[simp] theorem State.setClock_sb : (s.setClock v).sb = s.sb := rfl
@[simp] theorem State.setClock_ie : (s.setClock v).ie = s.ie := rfl
@[simp] theorem State.setClock_inService : (s.setClock v).inService = s.inService := rfl
@[simp] theorem State.setClock_halted : (s.setClock v).halted = s.halted := rfl
@[simp] theorem State.setClock_srcReg : (s.setClock v).srcReg = s.srcReg := rfl
@[simp] theorem State.setClock_sel : (s.setClock v).sel = s.sel := rfl
@[simp] theorem State.setClock_romSel : (s.setClock v).romSel = s.romSel := rfl
@[simp] theorem State.setClock_halfSel : (s.setClock v).halfSel = s.halfSel := rfl
@[simp] theorem State.setClock_mem : (s.setClock v).mem = s.mem := rfl
@[simp] theorem State.setClock_kd : (s.setClock v).kd = s.kd := rfl
@[simp] theorem State.setClock_io : (s.setClock v).io = s.io := rfl
@[simp] theorem State.setClock_inputs : (s.setClock v).inputs = s.inputs := rfl
@[simp] theorem State.setClock_clock : (s.setClock v).clock = v := rfl
end ClockUpdate

end Sys2Proof.Machine
end

