-- ==== Sys2Proof/Laws/Ops.lean ====
section
/-! SUPPORT. For each shared operation, once, everything it can do: what it leaves in every field, or which next states it can answer. -/

namespace Sys2Proof.Machine

/-! ### The program counter advances and nothing else changes -/

section
variable (n : Nat) (s : State)
@[simp] theorem advance_plat : (advance n s).plat = s.plat := rfl
@[simp] theorem advance_acc : (advance n s).acc = s.acc := rfl
@[simp] theorem advance_cy : (advance n s).cy = s.cy := rfl
@[simp] theorem advance_ir : (advance n s).ir = s.ir := rfl
@[simp] theorem advance_pc : (advance n s).pc = nextAddr s n := rfl
@[simp] theorem advance_stack : (advance n s).stack = s.stack := rfl
@[simp] theorem advance_cr : (advance n s).cr = s.cr := rfl
@[simp] theorem advance_bank : (advance n s).bank = s.bank := rfl
@[simp] theorem advance_sb : (advance n s).sb = s.sb := rfl
@[simp] theorem advance_ie : (advance n s).ie = s.ie := rfl
@[simp] theorem advance_inService : (advance n s).inService = s.inService := rfl
@[simp] theorem advance_halted : (advance n s).halted = s.halted := rfl
@[simp] theorem advance_srcReg : (advance n s).srcReg = s.srcReg := rfl
@[simp] theorem advance_sel : (advance n s).sel = s.sel := rfl
@[simp] theorem advance_romSel : (advance n s).romSel = s.romSel := rfl
@[simp] theorem advance_halfSel : (advance n s).halfSel = s.halfSel := rfl
@[simp] theorem advance_mem : (advance n s).mem = s.mem := rfl
@[simp] theorem advance_kd : (advance n s).kd = s.kd := rfl
@[simp] theorem advance_io : (advance n s).io = s.io := rfl
@[simp] theorem advance_inputs : (advance n s).inputs = s.inputs := rfl
@[simp] theorem advance_clock : (advance n s).clock = s.clock := rfl
end

/-! ### The end of a step -/

section
variable (s : State)
@[simp] theorem tick_plat : (tick s).plat = s.plat := rfl
@[simp] theorem tick_acc : (tick s).acc = s.acc := rfl
@[simp] theorem tick_cy : (tick s).cy = s.cy := rfl
@[simp] theorem tick_ir : (tick s).ir = s.ir := rfl
@[simp] theorem tick_pc : (tick s).pc = s.pc := rfl
@[simp] theorem tick_stack : (tick s).stack = s.stack := rfl
@[simp] theorem tick_cr : (tick s).cr = s.cr := rfl
@[simp] theorem tick_bank : (tick s).bank = s.bank := rfl
@[simp] theorem tick_sb : (tick s).sb = s.sb := rfl
@[simp] theorem tick_ie : (tick s).ie = s.ie := rfl
@[simp] theorem tick_inService : (tick s).inService = s.inService := rfl
@[simp] theorem tick_halted : (tick s).halted = s.halted := rfl
@[simp] theorem tick_srcReg : (tick s).srcReg = s.srcReg := rfl
@[simp] theorem tick_sel : (tick s).sel = s.sel := rfl
@[simp] theorem tick_romSel : (tick s).romSel = s.romSel := rfl
@[simp] theorem tick_halfSel : (tick s).halfSel = s.halfSel := rfl
@[simp] theorem tick_mem : (tick s).mem = s.mem := rfl
@[simp] theorem tick_kd : (tick s).kd = s.kd := rfl
@[simp] theorem tick_io : (tick s).io = s.io := rfl
@[simp] theorem tick_inputs : (tick s).inputs = s.inputs.tail := rfl
@[simp] theorem tick_clock : (tick s).clock = s.clock + 1 := rfl
end

/-! ### A result and a carry -/

section
variable (s : State) (r : Nibble × Bit)
@[simp] theorem setAccCy_plat : (setAccCy s r).plat = s.plat := rfl
@[simp] theorem setAccCy_acc : (setAccCy s r).acc = r.1 := rfl
@[simp] theorem setAccCy_cy : (setAccCy s r).cy = r.2 := rfl
@[simp] theorem setAccCy_ir : (setAccCy s r).ir = s.ir := rfl
@[simp] theorem setAccCy_pc : (setAccCy s r).pc = s.pc := rfl
@[simp] theorem setAccCy_stack : (setAccCy s r).stack = s.stack := rfl
@[simp] theorem setAccCy_cr : (setAccCy s r).cr = s.cr := rfl
@[simp] theorem setAccCy_bank : (setAccCy s r).bank = s.bank := rfl
@[simp] theorem setAccCy_sb : (setAccCy s r).sb = s.sb := rfl
@[simp] theorem setAccCy_ie : (setAccCy s r).ie = s.ie := rfl
@[simp] theorem setAccCy_inService : (setAccCy s r).inService = s.inService := rfl
@[simp] theorem setAccCy_halted : (setAccCy s r).halted = s.halted := rfl
@[simp] theorem setAccCy_srcReg : (setAccCy s r).srcReg = s.srcReg := rfl
@[simp] theorem setAccCy_sel : (setAccCy s r).sel = s.sel := rfl
@[simp] theorem setAccCy_romSel : (setAccCy s r).romSel = s.romSel := rfl
@[simp] theorem setAccCy_halfSel : (setAccCy s r).halfSel = s.halfSel := rfl
@[simp] theorem setAccCy_mem : (setAccCy s r).mem = s.mem := rfl
@[simp] theorem setAccCy_kd : (setAccCy s r).kd = s.kd := rfl
@[simp] theorem setAccCy_io : (setAccCy s r).io = s.io := rfl
@[simp] theorem setAccCy_inputs : (setAccCy s r).inputs = s.inputs := rfl
@[simp] theorem setAccCy_clock : (setAccCy s r).clock = s.clock := rfl
end

/-! ### One index register -/

section
variable (s : State) (r v : Nibble)
@[simp] theorem setReg_plat : (setReg s r v).plat = s.plat := rfl
@[simp] theorem setReg_acc : (setReg s r v).acc = s.acc := rfl
@[simp] theorem setReg_cy : (setReg s r v).cy = s.cy := rfl
@[simp] theorem setReg_ir : (setReg s r v).ir = regFileSet s r v := rfl
@[simp] theorem setReg_pc : (setReg s r v).pc = s.pc := rfl
@[simp] theorem setReg_stack : (setReg s r v).stack = s.stack := rfl
@[simp] theorem setReg_cr : (setReg s r v).cr = s.cr := rfl
@[simp] theorem setReg_bank : (setReg s r v).bank = s.bank := rfl
@[simp] theorem setReg_sb : (setReg s r v).sb = s.sb := rfl
@[simp] theorem setReg_ie : (setReg s r v).ie = s.ie := rfl
@[simp] theorem setReg_inService : (setReg s r v).inService = s.inService := rfl
@[simp] theorem setReg_halted : (setReg s r v).halted = s.halted := rfl
@[simp] theorem setReg_srcReg : (setReg s r v).srcReg = s.srcReg := rfl
@[simp] theorem setReg_sel : (setReg s r v).sel = s.sel := rfl
@[simp] theorem setReg_romSel : (setReg s r v).romSel = s.romSel := rfl
@[simp] theorem setReg_halfSel : (setReg s r v).halfSel = s.halfSel := rfl
@[simp] theorem setReg_mem : (setReg s r v).mem = s.mem := rfl
@[simp] theorem setReg_kd : (setReg s r v).kd = s.kd := rfl
@[simp] theorem setReg_io : (setReg s r v).io = s.io := rfl
@[simp] theorem setReg_inputs : (setReg s r v).inputs = s.inputs := rfl
@[simp] theorem setReg_clock : (setReg s r v).clock = s.clock := rfl
end

/-! ### A register pair -/

section
variable (s : State) (p : PairNo) (d : Byte)
@[simp] theorem setPair_plat : (setPair s p d).plat = s.plat := rfl
@[simp] theorem setPair_acc : (setPair s p d).acc = s.acc := rfl
@[simp] theorem setPair_cy : (setPair s p d).cy = s.cy := rfl
@[simp] theorem setPair_ir : (setPair s p d).ir = regFileSet (setReg s (evenReg p) (upper d)) (oddReg p) (lower d) := rfl
@[simp] theorem setPair_pc : (setPair s p d).pc = s.pc := rfl
@[simp] theorem setPair_stack : (setPair s p d).stack = s.stack := rfl
@[simp] theorem setPair_cr : (setPair s p d).cr = s.cr := rfl
@[simp] theorem setPair_bank : (setPair s p d).bank = s.bank := rfl
@[simp] theorem setPair_sb : (setPair s p d).sb = s.sb := rfl
@[simp] theorem setPair_ie : (setPair s p d).ie = s.ie := rfl
@[simp] theorem setPair_inService : (setPair s p d).inService = s.inService := rfl
@[simp] theorem setPair_halted : (setPair s p d).halted = s.halted := rfl
@[simp] theorem setPair_srcReg : (setPair s p d).srcReg = s.srcReg := rfl
@[simp] theorem setPair_sel : (setPair s p d).sel = s.sel := rfl
@[simp] theorem setPair_romSel : (setPair s p d).romSel = s.romSel := rfl
@[simp] theorem setPair_halfSel : (setPair s p d).halfSel = s.halfSel := rfl
@[simp] theorem setPair_mem : (setPair s p d).mem = s.mem := rfl
@[simp] theorem setPair_kd : (setPair s p d).kd = s.kd := rfl
@[simp] theorem setPair_io : (setPair s p d).io = s.io := rfl
@[simp] theorem setPair_inputs : (setPair s p d).inputs = s.inputs := rfl
@[simp] theorem setPair_clock : (setPair s p d).clock = s.clock := rfl
end

/-! ### The selection latches -/

section
variable (s : State) (a : Byte)
@[simp] theorem latchSelection_plat : (latchSelection s a).plat = s.plat := rfl
@[simp] theorem latchSelection_acc : (latchSelection s a).acc = s.acc := rfl
@[simp] theorem latchSelection_cy : (latchSelection s a).cy = s.cy := rfl
@[simp] theorem latchSelection_ir : (latchSelection s a).ir = s.ir := rfl
@[simp] theorem latchSelection_pc : (latchSelection s a).pc = s.pc := rfl
@[simp] theorem latchSelection_stack : (latchSelection s a).stack = s.stack := rfl
@[simp] theorem latchSelection_cr : (latchSelection s a).cr = s.cr := rfl
@[simp] theorem latchSelection_bank : (latchSelection s a).bank = s.bank := rfl
@[simp] theorem latchSelection_sb : (latchSelection s a).sb = s.sb := rfl
@[simp] theorem latchSelection_ie : (latchSelection s a).ie = s.ie := rfl
@[simp] theorem latchSelection_inService : (latchSelection s a).inService = s.inService := rfl
@[simp] theorem latchSelection_halted : (latchSelection s a).halted = s.halted := rfl
@[simp] theorem latchSelection_srcReg : (latchSelection s a).srcReg = s.srcReg := rfl
@[simp] theorem latchSelection_sel : (latchSelection s a).sel = put (w := 3) s.sel (bankOf s.cr) (some a) := rfl
@[simp] theorem latchSelection_romSel : (latchSelection s a).romSel = put (w := 1) s.romSel (romBank s) (some a) := rfl
@[simp] theorem latchSelection_halfSel : (latchSelection s a).halfSel = s.halfSel := rfl
@[simp] theorem latchSelection_mem : (latchSelection s a).mem = s.mem := rfl
@[simp] theorem latchSelection_kd : (latchSelection s a).kd = s.kd := rfl
@[simp] theorem latchSelection_io : (latchSelection s a).io = s.io := rfl
@[simp] theorem latchSelection_inputs : (latchSelection s a).inputs = s.inputs := rfl
@[simp] theorem latchSelection_clock : (latchSelection s a).clock = s.clock := rfl
end

/-! ### A 4269 of a bank -/

section
variable (s : State) (b : BankNo) (k : Kd4269)
@[simp] theorem setKdAt_plat : (setKdAt s b k).plat = s.plat := rfl
@[simp] theorem setKdAt_acc : (setKdAt s b k).acc = s.acc := rfl
@[simp] theorem setKdAt_cy : (setKdAt s b k).cy = s.cy := rfl
@[simp] theorem setKdAt_ir : (setKdAt s b k).ir = s.ir := rfl
@[simp] theorem setKdAt_pc : (setKdAt s b k).pc = s.pc := rfl
@[simp] theorem setKdAt_stack : (setKdAt s b k).stack = s.stack := rfl
@[simp] theorem setKdAt_cr : (setKdAt s b k).cr = s.cr := rfl
@[simp] theorem setKdAt_bank : (setKdAt s b k).bank = s.bank := rfl
@[simp] theorem setKdAt_sb : (setKdAt s b k).sb = s.sb := rfl
@[simp] theorem setKdAt_ie : (setKdAt s b k).ie = s.ie := rfl
@[simp] theorem setKdAt_inService : (setKdAt s b k).inService = s.inService := rfl
@[simp] theorem setKdAt_halted : (setKdAt s b k).halted = s.halted := rfl
@[simp] theorem setKdAt_srcReg : (setKdAt s b k).srcReg = s.srcReg := rfl
@[simp] theorem setKdAt_sel : (setKdAt s b k).sel = s.sel := rfl
@[simp] theorem setKdAt_romSel : (setKdAt s b k).romSel = s.romSel := rfl
@[simp] theorem setKdAt_halfSel : (setKdAt s b k).halfSel = s.halfSel := rfl
@[simp] theorem setKdAt_mem : (setKdAt s b k).mem = s.mem := rfl
@[simp] theorem setKdAt_kd : (setKdAt s b k).kd = put (w := 3) s.kd b k := rfl
@[simp] theorem setKdAt_io : (setKdAt s b k).io = s.io := rfl
@[simp] theorem setKdAt_inputs : (setKdAt s b k).inputs = s.inputs := rfl
@[simp] theorem setKdAt_clock : (setKdAt s b k).clock = s.clock := rfl
end

/-! ### A 4265 of a bank -/

section
variable (s : State) (b : BankNo) (high : Bit) (d : Io4265)
@[simp] theorem setIoAt_plat : (setIoAt s b high d).plat = s.plat := rfl
@[simp] theorem setIoAt_acc : (setIoAt s b high d).acc = s.acc := rfl
@[simp] theorem setIoAt_cy : (setIoAt s b high d).cy = s.cy := rfl
@[simp] theorem setIoAt_ir : (setIoAt s b high d).ir = s.ir := rfl
@[simp] theorem setIoAt_pc : (setIoAt s b high d).pc = s.pc := rfl
@[simp] theorem setIoAt_stack : (setIoAt s b high d).stack = s.stack := rfl
@[simp] theorem setIoAt_cr : (setIoAt s b high d).cr = s.cr := rfl
@[simp] theorem setIoAt_bank : (setIoAt s b high d).bank = s.bank := rfl
@[simp] theorem setIoAt_sb : (setIoAt s b high d).sb = s.sb := rfl
@[simp] theorem setIoAt_ie : (setIoAt s b high d).ie = s.ie := rfl
@[simp] theorem setIoAt_inService : (setIoAt s b high d).inService = s.inService := rfl
@[simp] theorem setIoAt_halted : (setIoAt s b high d).halted = s.halted := rfl
@[simp] theorem setIoAt_srcReg : (setIoAt s b high d).srcReg = s.srcReg := rfl
@[simp] theorem setIoAt_sel : (setIoAt s b high d).sel = s.sel := rfl
@[simp] theorem setIoAt_romSel : (setIoAt s b high d).romSel = s.romSel := rfl
@[simp] theorem setIoAt_halfSel : (setIoAt s b high d).halfSel = s.halfSel := rfl
@[simp] theorem setIoAt_mem : (setIoAt s b high d).mem = s.mem := rfl
@[simp] theorem setIoAt_kd : (setIoAt s b high d).kd = s.kd := rfl
@[simp] theorem setIoAt_io : (setIoAt s b high d).io = put (w := 4) s.io (b ++ high) d := rfl
@[simp] theorem setIoAt_inputs : (setIoAt s b high d).inputs = s.inputs := rfl
@[simp] theorem setIoAt_clock : (setIoAt s b high d).clock = s.clock := rfl
end

/-! ### The ROM bank switch -/

section
variable (s : State) (n : Bit)
@[simp] theorem selectRomBank_plat : (selectRomBank s n).plat = s.plat := rfl
@[simp] theorem selectRomBank_acc : (selectRomBank s n).acc = s.acc := rfl
@[simp] theorem selectRomBank_cy : (selectRomBank s n).cy = s.cy := rfl
@[simp] theorem selectRomBank_ir : (selectRomBank s n).ir = s.ir := rfl
@[simp] theorem selectRomBank_pc : (selectRomBank s n).pc = s.pc := rfl
@[simp] theorem selectRomBank_stack : (selectRomBank s n).stack = s.stack := rfl
@[simp] theorem selectRomBank_cr : (selectRomBank s n).cr = s.cr := rfl
@[simp] theorem selectRomBank_bank : (selectRomBank s n).bank = { rb := if s.plat.romBankDelay = 0 then n else s.bank.rb, next := n, count := s.plat.romBankDelay } := rfl
@[simp] theorem selectRomBank_sb : (selectRomBank s n).sb = s.sb := rfl
@[simp] theorem selectRomBank_ie : (selectRomBank s n).ie = s.ie := rfl
@[simp] theorem selectRomBank_inService : (selectRomBank s n).inService = s.inService := rfl
@[simp] theorem selectRomBank_halted : (selectRomBank s n).halted = s.halted := rfl
@[simp] theorem selectRomBank_srcReg : (selectRomBank s n).srcReg = s.srcReg := rfl
@[simp] theorem selectRomBank_sel : (selectRomBank s n).sel = s.sel := rfl
@[simp] theorem selectRomBank_romSel : (selectRomBank s n).romSel = s.romSel := rfl
@[simp] theorem selectRomBank_halfSel : (selectRomBank s n).halfSel = s.halfSel := rfl
@[simp] theorem selectRomBank_mem : (selectRomBank s n).mem = s.mem := rfl
@[simp] theorem selectRomBank_kd : (selectRomBank s n).kd = s.kd := rfl
@[simp] theorem selectRomBank_io : (selectRomBank s n).io = s.io := rfl
@[simp] theorem selectRomBank_inputs : (selectRomBank s n).inputs = s.inputs := rfl
@[simp] theorem selectRomBank_clock : (selectRomBank s n).clock = s.clock := rfl
end

/-! ### Outcomes -/

theorem onNext_eq_next {o : Host.Outcome State Fault Refusal} {f : State → State} {t : State} :
    onNext o f = .next t ↔ ∃ u, o = .next u ∧ f u = t := by
  cases o <;> simp [onNext]

theorem on4040_eq_next {w : Byte} {s t : State} {o : Host.Outcome State Fault Refusal} :
    on4040 w s o = .next t ↔ is4040 s = true ∧ o = .next t := by
  simp only [on4040]; split <;> simp_all

/-! ### Index registers -/

/-- The registers depend on the processor, the IR bank and the register file alone. -/
theorem reg_congr {s t : State} (r : Nibble) (hp : t.plat = s.plat) (hs : t.sb = s.sb) (hi : t.ir = s.ir) :
    reg t r = reg s r := by
  simp [reg, irBank, is4040, hp, hs, hi]

@[simp] theorem irBank_setReg (s : State) (r v : Nibble) : irBank (setReg s r v) = irBank s := rfl

theorem regSlot_eq {r q : Nibble} (hd : r.getLsbD 3 = q.getLsbD 3) (hs : regSlot r = regSlot q) : r = q := by
  simp only [regSlot] at hs
  revert hd hs
  revert r q
  decide

/-- `IR[r]` after `IR[r] <- v`. -/
@[simp] theorem reg_setReg_same (s : State) (r v : Nibble) : reg (setReg s r v) r = v := by
  simp only [reg, irBank_setReg, setReg_ir, regFileSet]
  split
  · simp
  · split <;> simp

/-- Another register after `IR[r] <- v`. -/
theorem reg_setReg_ne (s : State) {r q : Nibble} (v : Nibble) (h : r ≠ q) : reg (setReg s r v) q = reg s q := by
  simp only [reg, irBank_setReg, setReg_ir, regFileSet]
  by_cases hr : r.getLsbD 3 = true <;> by_cases hq : q.getLsbD 3 = true <;> by_cases hb : irBank s = 0#1 <;>
    simp only [hr, hq, hb, if_true, if_false, Bool.false_eq_true]
  all_goals
    refine look_put_ne _ _ _ _ fun e => h (regSlot_eq ?_ e)
    simp_all

theorem evenReg_ne_oddReg (p : PairNo) : evenReg p ≠ oddReg p := by revert p; decide

@[simp] theorem upper_joinHalves (u l : Nibble) : upper (joinHalves u l) = u := by revert u l; decide

@[simp] theorem lower_joinHalves (u l : Nibble) : lower (joinHalves u l) = l := by revert u l; decide

theorem joinHalves_upper_lower (d : Byte) : joinHalves (upper d) (lower d) = d := by revert d; decide

/-- `PAIR[p]` after `PAIR[p] <- d`. -/
@[simp] theorem pair_setPair (s : State) (p : PairNo) (d : Byte) : pair (setPair s p d) p = d := by
  simp only [pair, setPair, reg_setReg_same, reg_setReg_ne _ _ (evenReg_ne_oddReg p).symm]
  exact joinHalves_upper_lower d

/-- A register outside the pair after `PAIR[p] <- d`. -/
theorem reg_setPair_ne (s : State) {p : PairNo} {q : Nibble} (d : Byte) (he : evenReg p ≠ q) (ho : oddReg p ≠ q) :
    reg (setPair s p d) q = reg s q := by
  simp only [setPair, reg_setReg_ne _ _ ho, reg_setReg_ne _ _ he]

/-! ### The stack -/

/-- Every stack that a push can leave (R146). -/
theorem pushStack_eq_some {s : State} {v : Addr} {st : Stack} (h : pushStack s v = some st) :
    (s.plat.stackWrap = false ∧ s.stack.levels.length < s.plat.stackDepth ∧
      st = { s.stack with levels := s.stack.levels ++ [v] }) ∨
    (s.plat.stackWrap = true ∧
      st = { s.stack with ar := s.stack.ar.set s.stack.sp v, sp := (s.stack.sp + 1) % (s.plat.stackDepth + 1) }) := by
  simp only [pushStack] at h
  split at h
  · next hw => exact .inr ⟨hw, (Option.some.inj h).symm⟩
  · next hw =>
    split at h
    · next hl => exact .inl ⟨by simpa using hw, hl, (Option.some.inj h).symm⟩
    · cases h

/-- Every address and stack that a pop can give (R147). -/
theorem popStack_eq_some {s : State} {a : Addr} {st : Stack} (h : popStack s = some (a, st)) :
    (s.plat.stackWrap = false ∧ s.stack.levels.getLast? = some a ∧
      st = { s.stack with levels := s.stack.levels.dropLast }) ∨
    (s.plat.stackWrap = true ∧ st.levels = s.stack.levels ∧ st.ar = s.stack.ar.set s.stack.sp s.pc ∧
      st.sp = (s.stack.sp + s.plat.stackDepth) % (s.plat.stackDepth + 1) ∧ a = st.ar.getD st.sp 0#12) := by
  simp only [popStack] at h
  split at h
  · next hw =>
    simp only [Option.some.injEq, Prod.mk.injEq] at h
    obtain ⟨rfl, rfl⟩ := h
    exact .inr ⟨hw, rfl, rfl, rfl, rfl⟩
  · next hw =>
    split at h
    · cases h
    · next v hv =>
      simp only [Option.some.injEq, Prod.mk.injEq] at h
      obtain ⟨rfl, rfl⟩ := h
      exact .inl ⟨by simpa using hw, hv, rfl⟩

/-! ### The selection and the devices -/

/-- Every next state of a device that receives a SRC address (R228, R229, R255, R256). -/
theorem deviceOnSrc_eq_next {s t : State} {b : BankNo} {a : Byte} (h : deviceOnSrc s b a = .next t) :
    t = s ∨ t = setKdAt s b (kdSrc a (look (w := 3) s.kd b)) ∨
      ∃ high, t = setIoAt s b high (ioSrc a (ioAt s b high)) := by
  simp only [deviceOnSrc] at h
  split at h <;> simp only [Host.Outcome.next.injEq, reduceCtorEq] at h
  · exact .inl h.symm
  · exact .inl h.symm
  · exact .inr (.inl h.symm)
  · exact .inr (.inr ⟨_, h.symm⟩)

/-- Every next state of a SRC address sent: the latches, and at most one device (R66, R190). -/
theorem sendSrc_eq_next {s t : State} {a : Byte} (h : sendSrc s a = .next t) :
    t = latchSelection s a ∨
      t = setKdAt (latchSelection s a) (bankOf s.cr) (kdSrc a (look (w := 3) s.kd (bankOf s.cr))) ∨
      ∃ high, t = setIoAt (latchSelection s a) (bankOf s.cr) high (ioSrc a (ioAt s (bankOf s.cr) high)) :=
  deviceOnSrc_eq_next h

/-! ### The interrupt -/

/-- Every next state of interrupt entry (R286). -/
theorem interruptEntry_eq_next {s t : State} (h : interruptEntry s = .next t) :
    ∃ st, pushStack s s.pc = some st ∧
      t = (if s.plat.intEntryClearsIe
        then ((((s.setStack st).setPc Config.intVector).setInService true).setHalted false).setIe false
        else (((s.setStack st).setPc Config.intVector).setInService true).setHalted false) := by
  simp only [interruptEntry] at h
  split at h
  · cases h
  · next st hst => exact ⟨st, hst, (Host.Outcome.next.inj h).symm⟩

theorem interruptEntry_not_refused (s : State) (r : Refusal) : interruptEntry s ≠ .refused r := by
  simp only [interruptEntry]; split <;> simp

/-- Every next state of the return from an interrupt (R171). -/
theorem returnFromInterrupt_eq_next {s t : State} (h : returnFromInterrupt s = .next t) :
    ∃ a st r u, popStack s = some (a, st) ∧ s.srcReg = some r ∧ sendSrc s r = .next u ∧
      t = ((u.setStack st).setPc a).setInService false := by
  simp only [returnFromInterrupt] at h
  split at h
  · cases h
  · next a st hp =>
    split at h
    · cases h
    · next r hr =>
      obtain ⟨u, hu, rfl⟩ := onNext_eq_next.mp h
      exact ⟨a, st, r, u, hp, hr, hu, rfl⟩

/-! ### ROM banks and program memory -/

/-- What the bank switch can do before a word is fetched (R177): nothing, take effect, or count. -/
theorem bankUpdate_cases (s : State) :
    bankUpdate s = s ∨
    (is4040 s = true ∧ s.bank.rb ≠ s.bank.next ∧ s.bank.count = 0 ∧
      bankUpdate s = s.setBank { s.bank with rb := s.bank.next }) ∨
    (is4040 s = true ∧ s.bank.rb ≠ s.bank.next ∧ s.bank.count ≠ 0 ∧
      bankUpdate s = s.setBank { s.bank with count := s.bank.count - 1 }) := by
  by_cases h : is4040 s = true ∧ s.bank.rb ≠ s.bank.next
  · by_cases hc : s.bank.count = 0
    · exact .inr (.inl ⟨h.1, h.2, hc, by simp only [bankUpdate, h, hc, if_true, and_self, ne_eq, not_false_eq_true]⟩)
    · exact .inr (.inr ⟨h.1, h.2, hc, by simp only [bankUpdate, h, hc, if_true, if_false, and_self, ne_eq, not_false_eq_true]⟩)
  · exact .inl (by simp only [bankUpdate, if_neg h])

/-- Whatever the bank switch does, it changes RB, RBNEXT and RBCOUNT alone. -/
theorem bankUpdate_eq_setBank (s : State) : ∃ b, bankUpdate s = s.setBank b := by
  rcases bankUpdate_cases s with h | ⟨-, -, -, h⟩ | ⟨-, -, -, h⟩
  · exact ⟨s.bank, h⟩
  · exact ⟨_, h⟩
  · exact ⟨_, h⟩

/-- The environment's moves change the 4269s alone (R72). -/
theorem environmentMoves_eq_setKd (s : State) : ∃ k, environmentMoves s = s.setKd k := by
  simp only [environmentMoves]
  split
  · exact ⟨_, rfl⟩
  · exact ⟨s.kd, rfl⟩

/-- RPM's word is WPM's word where a 4289 controls it (R184). -/
theorem rpmWord_eq_some {s : State} {w : Bit × Addr} :
    rpmWord s = some w ↔ progRamWord s = some w ∧ s.plat.pages4289.contains (w.1, pageOf w.2) = true := by
  unfold rpmWord
  split
  · next h => simp [h]
  · next v h =>
    rw [h, Option.ite_none_right_eq_some, and_comm]
    refine and_congr_right fun hv => ?_
    cases hv
    rfl

/-- WPM's write changes memory alone, and there at most one half of program RAM (R196). -/
theorem writeProgRam_cases (s : State) (v : Nibble) :
    writeProgRam s v = s ∨
    ∃ w, progRamWord s = some w ∧
      writeProgRam s v = s.setMem { s.mem with pram := writeCell s.mem.pram (halfKey w.1 w.2 s.halfSel) v } := by
  simp only [writeProgRam]
  split
  · exact .inl rfl
  · next w hw => exact .inr ⟨w, hw, rfl⟩

/-! ### The RAM side and the ROM side -/

/-- Every next state of a RAM-side write (R191): the latch was set, and one device took the write or none did. -/
theorem ramWrite_eq_next {op : WriteOp} {s t : State} (h : ramWrite op s = .next t) :
    ∃ a, look (w := 3) s.sel (bankOf s.cr) = some a ∧
      ((targetOf s (bankOf s.cr) a = .empty ∧ t = s) ∨
       (targetOf s (bankOf s.cr) a = .ram4002 ∧ t = s.setMem (ram4002Write s.mem (bankOf s.cr) a op s.acc)) ∨
       (∃ k, targetOf s (bankOf s.cr) a = .dev4269 ∧
          kdWrite s.plat.fifoDepth s.clock op s.acc (look (w := 3) s.kd (bankOf s.cr)) = some k ∧
          t = setKdAt s (bankOf s.cr) k) ∨
       (∃ high d, targetOf s (bankOf s.cr) a = .dev4265 high ∧ ioWrite op s.acc (ioAt s (bankOf s.cr) high) = some d ∧
          t = setIoAt s (bankOf s.cr) high d)) := by
  simp only [ramWrite] at h
  split at h
  · cases h
  · next a ha =>
    refine ⟨a, ha, ?_⟩
    split at h
    · next ht => exact .inl ⟨ht, (Host.Outcome.next.inj h).symm⟩
    · next ht => exact .inr (.inl ⟨ht, (Host.Outcome.next.inj h).symm⟩)
    · next ht =>
      split at h
      · next k hk => exact .inr (.inr (.inl ⟨k, ht, hk, (Host.Outcome.next.inj h).symm⟩))
      · cases h
    · next high ht =>
      split at h
      · next d hd => exact .inr (.inr (.inr ⟨high, d, ht, hd, (Host.Outcome.next.inj h).symm⟩))
      · cases h
    · cases h

/-- Every next state of a RAM-side read (R191): the value received and the state that `f` makes of it. -/
theorem ramRead_eq_next {op : ReadOp} {s t : State} {f : Nibble → State → State} (h : ramRead op s f = .next t) :
    ∃ a, look (w := 3) s.sel (bankOf s.cr) = some a ∧
      ((targetOf s (bankOf s.cr) a = .empty ∧ t = f (drawNow s .received) s) ∨
       (targetOf s (bankOf s.cr) a = .ram4002 ∧
          t = f ((ram4002Read s.mem (bankOf s.cr) a op).getD (drawNow s .received)) s) ∨
       (∃ v k, targetOf s (bankOf s.cr) a = .dev4269 ∧
          kdRead op (drawNow s .received) (look (w := 3) s.kd (bankOf s.cr)) = some (v, k) ∧
          t = f v (setKdAt s (bankOf s.cr) k)) ∨
       (∃ high v, targetOf s (bankOf s.cr) a = .dev4265 high ∧
          ioRead op (portIn s) (drawNow s .received) (ioAt s (bankOf s.cr) high) = some v ∧ t = f v s)) := by
  simp only [ramRead] at h
  split at h
  · cases h
  · next a ha =>
    refine ⟨a, ha, ?_⟩
    split at h
    · next ht => exact .inl ⟨ht, (Host.Outcome.next.inj h).symm⟩
    · next ht => exact .inr (.inl ⟨ht, (Host.Outcome.next.inj h).symm⟩)
    · next ht =>
      split at h
      · next v k hk => exact .inr (.inr (.inl ⟨v, k, ht, hk, (Host.Outcome.next.inj h).symm⟩))
      · cases h
    · next high ht =>
      split at h
      · next v hv => exact .inr (.inr (.inr ⟨high, v, ht, hv, (Host.Outcome.next.inj h).symm⟩))
      · cases h
    · cases h

/-- Every next state of WRR's write (R192, R195). -/
theorem romWrite_eq_next {s t : State} (h : romWrite s = .next t) :
    ∃ n, romPort s = some n ∧
      ((romPortPresent s.plat (romBank s) n = true ∧
          t = s.setMem { s.mem with romport := writeCell s.mem.romport (romportKey (romBank s) n) s.acc }) ∨
       (romPortPresent s.plat (romBank s) n = false ∧ t = s)) := by
  simp only [romWrite] at h
  split at h
  · cases h
  · next n hn =>
    refine ⟨n, hn, ?_⟩
    split at h
    · next hp => exact .inl ⟨hp, (Host.Outcome.next.inj h).symm⟩
    · next hp => exact .inr ⟨by simpa using hp, (Host.Outcome.next.inj h).symm⟩

/-- Every next state of RDR's read (R192, R204): the accumulator alone. -/
theorem romRead_eq_next {s t : State} (h : romRead s = .next t) :
    ∃ n, romPort s = some n ∧
      t = s.setAcc (if romPortPresent s.plat (romBank s) n then portIn s else drawNow s .received) := by
  simp only [romRead] at h
  split at h
  · cases h
  · next n hn => exact ⟨n, hn, (Host.Outcome.next.inj h).symm⟩

end Sys2Proof.Machine
end

