-- ==== Sys2Proof/Laws/Step.lean ====
section
/-! SUPPORT. For the parts of a step, once, everything they can do (spec/60_exceptions.md R281). -/

namespace Sys2Proof.Machine

/-- A fetch that ends in an instruction ran bankUpdate once or twice and did nothing else (R177, R281). -/
theorem fetchDecode_eq_run {s t : State} {i : Instr} (h : fetchDecode s = .run i t) :
    t = bankUpdate s ∨ t = bankUpdate (bankUpdate s) := by
  simp only [fetchDecode] at h
  split at h
  · cases h
  · split at h
    · split at h
      · cases h
      · split at h
        · cases h; exact .inr rfl
        · cases h
    · split at h
      · cases h; exact .inl rfl
      · cases h

/-- A fetch never ends quietly. -/
theorem fetchDecode_ne_quiet (s t : State) : fetchDecode s ≠ .quiet t := by
  simp only [fetchDecode]
  split
  · simp
  · split
    · split
      · simp
      · split <;> simp
    · split <;> simp

/-- A step that reaches an instruction: no interrupt was recognised, the processor is not halted (R281). -/
theorem beginStep_eq_run {s t : State} {i : Instr} (h : beginStep s = .run i t) :
    interruptRecognised (environmentMoves s) = false ∧ isHalted (environmentMoves s) = false ∧
      fetchDecode (environmentMoves s) = .run i t := by
  simp only [beginStep] at h
  split at h
  · split at h <;> cases h
  · next h1 =>
    split at h
    · cases h
    · next h2 => exact ⟨by simpa using h1, by simpa using h2, h⟩

/-- A step in which no instruction executes: an interrupt was entered, or the processor is halted (R286, R288). -/
theorem beginStep_eq_quiet {s t : State} (h : beginStep s = .quiet t) :
    (interruptRecognised (environmentMoves s) = true ∧ interruptEntry (environmentMoves s) = .next t) ∨
    (interruptRecognised (environmentMoves s) = false ∧ isHalted (environmentMoves s) = true ∧
      t = haltedStep (environmentMoves s)) := by
  simp only [beginStep] at h
  split at h
  · next h1 =>
    split at h
    · next u hu => cases h; exact .inl ⟨h1, hu⟩
    · cases h
    · next r hr => simp only [interruptEntry] at hr; split at hr <;> cases hr
  · next h1 =>
    split at h
    · next h2 => cases h; exact .inr ⟨by simpa using h1, h2, rfl⟩
    · exact absurd h (fetchDecode_ne_quiet _ _)

/-- Every next state of a step: a quiet one, or that of the instruction fetched; then the clock. -/
theorem step_eq_next {s t : State} (h : step s = .next t) :
    (∃ u, beginStep s = .quiet u ∧ t = tick u) ∨
    (∃ i u v, beginStep s = .run i u ∧ exec i u = .next v ∧ t = tick v) := by
  simp only [step] at h
  split at h
  · next u hu => cases h; exact .inl ⟨u, hu, rfl⟩
  · cases h
  · next i u hu =>
    obtain ⟨v, hv, rfl⟩ := onNext_eq_next.mp h
    exact .inr ⟨i, u, v, hu, hv, rfl⟩

/-- A halted step without a recognised interrupt (R288). -/
theorem step_of_halted {s : State} (hr : interruptRecognised (environmentMoves s) = false)
    (hh : isHalted (environmentMoves s) = true) : step s = .next (tick (haltedStep (environmentMoves s))) := by
  simp [step, beginStep, hr, hh]

/-- End (a) of a run (R318): the JUN changes nothing in the end state, and the step is the end of the step on it. -/
theorem selfJumpState_eq_some {s t : State} (h : selfJumpState s = some t) :
    beginStep s = .run (.jun t.pc) t ∧ exec (.jun t.pc) t = .next t ∧ step s = .next (tick t) := by
  have hb : beginStep s = .run (.jun t.pc) t := by
    unfold selfJumpState at h
    split at h
    · next a u hu =>
      split at h
      · next ha => cases h; exact ha ▸ hu
      · cases h
    all_goals cases h
  exact ⟨hb, rfl, by simp only [step, hb]; rfl⟩

/-- End (b) of a run lasts (R318, R288): the step changes nothing but what the environment does, and it is still end (b). -/
theorem endedInHalt_step {s : State} (h : EndedInHalt s) :
    step s = .next (tick (environmentMoves s)) ∧ EndedInHalt (tick (environmentMoves s)) := by
  obtain ⟨hh, hn⟩ := h
  have hi : intIn (environmentMoves s) = false := hn 0 s rfl
  have hm : isHalted (environmentMoves s) = true := by
    obtain ⟨k, hk⟩ := environmentMoves_eq_setKd s
    rw [hk]; exact hh
  have hq : haltedStep (environmentMoves s) = environmentMoves s := by simp [haltedStep, haltEndsQuietly, hi]
  have hs : step s = .next (tick (environmentMoves s)) := by
    rw [step_of_halted (by simp [interruptRecognised, hi]) hm, hq]
  refine ⟨hs, hm, fun n t ht => hn (n + 1) t ?_⟩
  simp only [run, hs]
  exact ht

end Sys2Proof.Machine
end

