-- ==== Sys2Proof/Laws/PerInstr.lean ====
section
/-! SUPPORT. Statements about every instruction, one lemma a constructor: an encoding has the length that
spec/30_encoding.md R90 gives the instruction. -/

namespace Sys2Proof.Laws.EncodeLength

/-- The number of words of the encoding is the length of the instruction (R90). -/
def Statement (i : Instr) : Prop := (encode i).length = i.words

theorem nop : Statement (.nop) := rfl
theorem jcn (cond : Nibble) (addr : Byte) : Statement (.jcn cond addr) := rfl
theorem fim (p : PairNo) (data : Byte) : Statement (.fim p data) := rfl
theorem fin (p : PairNo) : Statement (.fin p) := rfl
theorem jin (p : PairNo) : Statement (.jin p) := rfl
theorem jun (addr : Addr) : Statement (.jun addr) := rfl
theorem jms (addr : Addr) : Statement (.jms addr) := rfl
theorem inc (r : Nibble) : Statement (.inc r) := rfl
theorem isz (r : Nibble) (addr : Byte) : Statement (.isz r addr) := rfl
theorem add (r : Nibble) : Statement (.add r) := rfl
theorem sub (r : Nibble) : Statement (.sub r) := rfl
theorem ld (r : Nibble) : Statement (.ld r) := rfl
theorem xch (r : Nibble) : Statement (.xch r) := rfl
theorem bbl (d : Nibble) : Statement (.bbl d) := rfl
theorem ldm (d : Nibble) : Statement (.ldm d) := rfl
theorem clb : Statement (.clb) := rfl
theorem clc : Statement (.clc) := rfl
theorem iac : Statement (.iac) := rfl
theorem cmc : Statement (.cmc) := rfl
theorem cma : Statement (.cma) := rfl
theorem ral : Statement (.ral) := rfl
theorem rar : Statement (.rar) := rfl
theorem tcc : Statement (.tcc) := rfl
theorem dac : Statement (.dac) := rfl
theorem tcs : Statement (.tcs) := rfl
theorem stc : Statement (.stc) := rfl
theorem daa : Statement (.daa) := rfl
theorem kbp : Statement (.kbp) := rfl
theorem dcl : Statement (.dcl) := rfl
theorem hlt : Statement (.hlt) := rfl
theorem bbs : Statement (.bbs) := rfl
theorem lcr : Statement (.lcr) := rfl
theorem or4 : Statement (.or4) := rfl
theorem or5 : Statement (.or5) := rfl
theorem an6 : Statement (.an6) := rfl
theorem an7 : Statement (.an7) := rfl
theorem db0 : Statement (.db0) := rfl
theorem db1 : Statement (.db1) := rfl
theorem sb0 : Statement (.sb0) := rfl
theorem sb1 : Statement (.sb1) := rfl
theorem ein : Statement (.ein) := rfl
theorem din : Statement (.din) := rfl
theorem rpm : Statement (.rpm) := rfl
theorem src (p : PairNo) : Statement (.src p) := rfl
theorem wrm : Statement (.wrm) := rfl
theorem wmp : Statement (.wmp) := rfl
theorem wrr : Statement (.wrr) := rfl
theorem wpm : Statement (.wpm) := rfl
theorem wr0 : Statement (.wr0) := rfl
theorem wr1 : Statement (.wr1) := rfl
theorem wr2 : Statement (.wr2) := rfl
theorem wr3 : Statement (.wr3) := rfl
theorem sbm : Statement (.sbm) := rfl
theorem rdm : Statement (.rdm) := rfl
theorem rdr : Statement (.rdr) := rfl
theorem adm : Statement (.adm) := rfl
theorem rd0 : Statement (.rd0) := rfl
theorem rd1 : Statement (.rd1) := rfl
theorem rd2 : Statement (.rd2) := rfl
theorem rd3 : Statement (.rd3) := rfl

end Sys2Proof.Laws.EncodeLength
end

