-- ==== Sys2Proof/Machine/Assembler.lean ====
section
/-! DEFINITION. What the card's assembler tables say of the machine (spec/30_encoding.md R100 to R103): the six special
mnemonics, the checks behind the error codes that bear on the hardware (A, R, V, X), the pseudo-operations and where ORG puts a
program, then what the pseudo-operations do to a text of statements. The syntax of source lines is not in the card (R100), and the
working of the assemblers beyond this is out of scope (spec/00_scope.md R6 (e)). -/

namespace Sys2Proof.Machine

/-- The special mnemonics of JCN (R101). -/
inductive SpecialMnemonic where
  | jnt
  | jc
  | jz
  | jt
  | jnc
  | jnz
  deriving DecidableEq, Repr

/-- The instruction a special mnemonic stands for (R101). -/
def expandSpecial (m : SpecialMnemonic) (a : Byte) : Instr :=
  match m with
  | .jnt => .jcn 0b0001#4 a
  | .jc => .jcn 0b0010#4 a
  | .jz => .jcn 0b0100#4 a
  | .jt => .jcn 0b1001#4 a
  | .jnc => .jcn 0b1010#4 a
  | .jnz => .jcn 0b1100#4 a

/-- The assembler's error codes (R103). -/
inductive AsmError where
  /-- A: JUN or JMS referencing address not in range of 0 to 4095. -/
  | address
  /-- B: parentheses or quotes unbalanced. -/
  | balance
  /-- E: missing operator, comma, or misspelled op code. -/
  | expression
  /-- F: missing or extraneous operand. -/
  | format
  /-- I: invalid ASCII character or numeric character exceeds base. -/
  | illegal
  /-- M: symbol defined more than once. -/
  | multiple
  /-- N: IF or ENDIF improperly nested. -/
  | nesting
  /-- P: element value changed between pass 1 and pass 2. -/
  | phase
  /-- Q: operator omitted. -/
  | questionable
  /-- R: register specified is invalid. -/
  | register
  /-- S: expression evaluation stack overflowed. -/
  | stack
  /-- T: symbol table space exhausted. -/
  | table
  /-- U: symbol not previously defined. -/
  | undefined
  /-- V: operand or expression value exceeds range required. -/
  | value
  /-- X: 4040 only instruction, cannot be executed by 4004. -/
  | only4040
  /-- *?: the paper tape reader did not supply expected input. -/
  | tape
  deriving DecidableEq, Repr

/-- A register operand, error R (R100, R103, R106). -/
def asmRegister (n : Nat) : Except AsmError Nibble := if n < 16 then .ok (BitVec.ofNat 4 n) else .error .register

/-- A register pair operand, error R (R100, R103, R106). -/
def asmPair (n : Nat) : Except AsmError PairNo := if n < 8 then .ok (BitVec.ofNat 3 n) else .error .register

/-- The address of JUN and JMS, error A (R103). -/
def asmAddress (n : Nat) : Except AsmError Addr := if n < 4096 then .ok (BitVec.ofNat 12 n) else .error .address

/-- Four bits of data or condition, error V (R103). -/
def asmNibble (n : Nat) : Except AsmError Nibble := if n < 16 then .ok (BitVec.ofNat 4 n) else .error .value

/-- Eight bits of data or address, error V (R103). -/
def asmByte (n : Nat) : Except AsmError Byte := if n < 256 then .ok (BitVec.ofNat 8 n) else .error .value

/-- An instruction assembled for a processor, error X (R103; the flag of R104). -/
def asmFor (cpu : Cpu) (i : Instr) : Except AsmError (List Byte) :=
  if i.WellFormed cpu then .ok (encode i) else .error .only4040

/-- The pseudo-operations (R102); ENDIF closes an IF, ENDM a MACRO. -/
inductive PseudoOp where
  | org
  | equ
  | set
  | ifBegin
  | ifEnd
  | macroBegin
  | macroEnd
  | title
  | bank
  | endOfText
  deriving DecidableEq, Repr

/-- The label column of R102. -/
inductive LabelUse where
  | optional
  | required
  | notGiven
  deriving DecidableEq, Repr

/-- Whether a pseudo-operation takes a label (R102). -/
def PseudoOp.label : PseudoOp → LabelUse
  | .org => .optional
  | .equ => .required
  | .set => .required
  | .ifBegin => .optional
  | .ifEnd => .notGiven
  | .macroBegin => .required
  | .macroEnd => .notGiven
  | .title => .optional
  | .bank => .optional
  | .endOfText => .notGiven

/-- Those that R102 marks "Used with MAC4 Cross Assembler only". -/
def PseudoOp.mac4Only : PseudoOp → Bool
  | .ifBegin => true
  | .macroBegin => true
  | .title => true
  | .org => false
  | .equ => false
  | .set => false
  | .ifEnd => false
  | .macroEnd => false
  | .bank => false
  | .endOfText => false

/-- The words of a program from an ORG address on, at addresses adr, adr + 1, ... of a ROM bank (R102, R62 (a), D6). -/
def placeProgram (rb : Bit) (adr : Addr) : List Byte → List Host.Cell → List Host.Cell
  | [], rom => rom
  | w :: ws, rom => placeProgram rb (adr + 1#12) ws (writeCell rom (progKey rb adr) w)

/-! ### What the pseudo-operations do

Source is given as statements already read: the card has no syntax for a line, an operator or a macro call (R100). What is chosen
beside R102 and R103 is log 43. -/

/-- A symbol or the name of a macro; how it is spelled is not in the card (R100). -/
abbrev Symbol := Nat

/-- An operand expression: a number or a symbol (log 43). -/
inductive Expr where
  | num (n : Nat)
  | sym (x : Symbol)
  deriving DecidableEq, Repr

/-- The value of an expression under a symbol table, error U (R103). -/
def Expr.eval (table : List (Symbol × Nat)) : Expr → Except AsmError Nat
  | .num n => .ok n
  | .sym x =>
    match readCell table x with
    | some v => .ok v
    | none => .error .undefined

/-- A macro's parameters replaced by the operands of its call. -/
def Expr.subst (args : List (Symbol × Expr)) : Expr → Expr
  | .num n => .num n
  | .sym x => (readCell args x).getD (.sym x)

/-- The code and operand of a statement. -/
inductive Code where
  /-- An instruction of the form of `like`, with its operands in the order of R106. -/
  | instr (like : Instr) (operands : List Expr)
  | special (m : SpecialMnemonic) (addr : Expr)
  | org (adr : Expr)
  | equ (e : Expr)
  | set (e : Expr)
  | ifBegin (e : Expr)
  | ifEnd
  | macroBegin (parameters : List Symbol)
  | macroEnd
  | title
  | bank
  | endOfText
  /-- The use of a macro that a MACRO label has defined. -/
  | call (name : Symbol) (operands : List Expr)
  deriving DecidableEq, Repr

/-- The row of R102 that a code is of; none for an instruction or the use of a macro. -/
def Code.pseudo : Code → Option PseudoOp
  | .instr _ _ => none
  | .special _ _ => none
  | .org _ => some .org
  | .equ _ => some .equ
  | .set _ => some .set
  | .ifBegin _ => some .ifBegin
  | .ifEnd => some .ifEnd
  | .macroBegin _ => some .macroBegin
  | .macroEnd => some .macroEnd
  | .title => some .title
  | .bank => some .bank
  | .endOfText => some .endOfText
  | .call _ _ => none

/-- The operands of a code with a macro's parameters replaced. -/
def Code.subst (args : List (Symbol × Expr)) : Code → Code
  | .instr like es => .instr like (es.map (Expr.subst args))
  | .special m a => .special m (a.subst args)
  | .org e => .org (e.subst args)
  | .equ e => .equ (e.subst args)
  | .set e => .set (e.subst args)
  | .ifBegin e => .ifBegin (e.subst args)
  | .ifEnd => .ifEnd
  | .macroBegin ps => .macroBegin ps
  | .macroEnd => .macroEnd
  | .title => .title
  | .bank => .bank
  | .endOfText => .endOfText
  | .call x es => .call x (es.map (Expr.subst args))

/-- A statement: the fields "Label", "Code", "Operand" (R100). -/
structure Statement where
  label : Option Symbol
  code : Code
  deriving DecidableEq, Repr

/-- The instruction of the form of `like` with these operand values, errors R, A, V; error F for a missing or extraneous operand
(R103). -/
def withOperands (like : Instr) (values : List Nat) : Except AsmError Instr :=
  match like, values with
  | .jcn _ _, [c, a] => do return .jcn (← asmNibble c) (← asmByte a)
  | .fim _ _, [p, d] => do return .fim (← asmPair p) (← asmByte d)
  | .fin _, [p] => do return .fin (← asmPair p)
  | .jin _, [p] => do return .jin (← asmPair p)
  | .src _, [p] => do return .src (← asmPair p)
  | .jun _, [a] => do return .jun (← asmAddress a)
  | .jms _, [a] => do return .jms (← asmAddress a)
  | .inc _, [r] => do return .inc (← asmRegister r)
  | .isz _ _, [r, a] => do return .isz (← asmRegister r) (← asmByte a)
  | .add _, [r] => do return .add (← asmRegister r)
  | .sub _, [r] => do return .sub (← asmRegister r)
  | .ld _, [r] => do return .ld (← asmRegister r)
  | .xch _, [r] => do return .xch (← asmRegister r)
  | .bbl _, [d] => do return .bbl (← asmNibble d)
  | .ldm _, [d] => do return .ldm (← asmNibble d)
  | .jcn _ _, _ | .fim _ _, _ | .fin _, _ | .jin _, _ | .src _, _ | .jun _, _ | .jms _, _ | .inc _, _ | .isz _ _, _
  | .add _, _ | .sub _, _ | .ld _, _ | .xch _, _ | .bbl _, _ | .ldm _, _ => .error .format
  | i, [] => .ok i
  | _, _ :: _ => .error .format

/-- What an assembly is for: the assembler, the processor, the ROM bank that the program is for. -/
structure AsmOptions where
  mac4 : Bool
  cpu : Cpu
  rb : Bit
  deriving DecidableEq, Repr

/-- Where an assembly stands. -/
structure AsmState where
  /-- Pass 2 is under way: words are placed and no symbol may change. -/
  second : Bool
  /-- The address of the next instruction or byte. -/
  location : Addr
  /-- The values of the symbols. -/
  table : List (Symbol × Nat)
  /-- The symbols defined in this pass, true for those that SET defined. -/
  defined : List (Symbol × Bool)
  macros : List (Symbol × List Symbol × List Statement)
  /-- How many IFs are open. -/
  openIfs : Nat
  /-- The words placed. -/
  words : List Host.Cell
  deriving DecidableEq, Repr

/-- A symbol assigned a value: error M for a second definition, unless SET makes both; error P where pass 2 finds a value that
pass 1 did not (R102, R103). -/
def AsmState.assign (s : AsmState) (bySet : Bool) (x : Symbol) (v : Nat) : Except AsmError AsmState :=
  let t := { s with table := writeCell s.table x v, defined := writeCell s.defined x bySet }
  match readCell s.defined x with
  | some earlierSet => if bySet && earlierSet then .ok t else .error .multiple
  | none => if (readCell s.macros x).isSome then .error .multiple
      else if s.second && !bySet && readCell s.table x != some v then .error .phase else .ok t

/-- An optional label assigned the address of what follows. -/
def AsmState.place (s : AsmState) : Option Symbol → Except AsmError AsmState
  | none => .ok s
  | some x => s.assign false x s.location.toNat

/-- An instruction at the location: in pass 1 its length alone counts, in pass 2 its operands are evaluated and its words placed, so
that an operand may name a symbol defined later in the text (DESIGN CHOICE, log 43). -/
def AsmState.emit (o : AsmOptions) (s : AsmState) (like : Instr) (i : Except AsmError Instr) : Except AsmError AsmState := do
  if s.second then
    let ws ← asmFor o.cpu (← i)
    return { s with location := s.location + BitVec.ofNat 12 ws.length, words := placeProgram o.rb s.location ws s.words }
  else return { s with location := s.location + BitVec.ofNat 12 like.words }

/-- The statements after the ENDIF that closes an IF; `depth` further IFs are open within it. Error N where there is none. IFs and
ENDIFs within what is skipped are counted and nothing else there is looked at (DESIGN CHOICE, log 43). -/
def skipIf : Nat → List Statement → Except AsmError (List Statement)
  | _, [] => .error .nesting
  | depth, l :: ls =>
    match l.code with
    | .ifBegin _ => skipIf (depth + 1) ls
    | .ifEnd =>
      match depth with
      | 0 => .ok ls
      | k + 1 => skipIf k ls
    | _ => skipIf depth ls

/-- The statements up to the ENDM that closes a MACRO, and those after it. Error F where there is none. The first ENDM closes it,
also after a MACRO within the body (DESIGN CHOICE, log 43). -/
def takeMacro : List Statement → Except AsmError (List Statement × List Statement)
  | [] => .error .format
  | l :: ls =>
    match l.code with
    | .macroEnd => .ok ([], ls)
    | _ => do
      let r ← takeMacro ls
      return (l :: r.1, r.2)

/-- The label column and the mark of MAC4 of R102, error F and error E. -/
def checkStatement (o : AsmOptions) (l : Statement) : Except AsmError Unit :=
  match l.code.pseudo with
  | none => .ok ()
  | some p =>
    if p.mac4Only && !o.mac4 then .error .expression
    else
      match p.label, l.label with
      | .required, none => .error .format
      | .notGiven, some _ => .error .format
      | .required, some _ => .ok ()
      | .notGiven, none => .ok ()
      | .optional, _ => .ok ()

/-- One statement: the state after it and the statements that follow (R102); none after END. DESIGN CHOICE (log 43): the operands
of ORG, EQU, SET and IF are evaluated in both passes, so that they name earlier symbols only, error U otherwise; the use of a macro
replaces the parameters in the operands of its body and keeps the labels as they stand, so that a second use of a body with a label
is error M. -/
def assembleOne (o : AsmOptions) (s : AsmState) (l : Statement) (rest : List Statement) :
    Except AsmError (AsmState × List Statement) := do
  checkStatement o l
  match l.code with
  | .instr like es =>
    let t ← s.place l.label
    return (← t.emit o like (do withOperands like (← es.mapM (Expr.eval t.table))), rest)
  | .special m a =>
    let t ← s.place l.label
    return (← t.emit o (expandSpecial m 0#8) (do return expandSpecial m (← asmByte (← a.eval t.table))), rest)
  | .org e =>
    let v ← e.eval s.table
    if v < 4096 then return (← { s with location := BitVec.ofNat 12 v }.place l.label, rest)
    else throw .value
  | .equ e =>
    let v ← e.eval s.table
    match l.label with
    | some x => return (← s.assign false x v, rest)
    | none => throw .format
  | .set e =>
    let v ← e.eval s.table
    match l.label with
    | some x => return (← s.assign true x v, rest)
    | none => throw .format
  | .ifBegin e =>
    let t ← s.place l.label
    if (← e.eval t.table) = 0 then return (t, ← skipIf 0 rest)
    else return ({ t with openIfs := t.openIfs + 1 }, rest)
  | .ifEnd => if s.openIfs = 0 then throw .nesting else return ({ s with openIfs := s.openIfs - 1 }, rest)
  | .macroBegin ps =>
    let body ← takeMacro rest
    match l.label with
    | some x =>
      if (readCell s.macros x).isSome || (readCell s.defined x).isSome then throw .multiple
      else return ({ s with macros := writeCell s.macros x (ps, body.1) }, body.2)
    | none => throw .format
  | .macroEnd => throw .format
  | .title => return (← s.place l.label, rest)
  | .bank => return (← s.place l.label, rest)
  | .endOfText => return (s, [])
  | .call x es =>
    let t ← s.place l.label
    match readCell t.macros x with
    | none => throw .undefined
    | some m =>
      if m.1.length = es.length then
        return (t, m.2.map (fun k => { k with code := k.code.subst (m.1.zip es) }) ++ rest)
      else throw .format

/-- One pass over the text, at most `fuel` statements (error T beyond, for a macro that uses itself); error N for an IF that is
still open at the end. -/
def assemblePass (o : AsmOptions) : Nat → AsmState → List Statement → Except AsmError AsmState
  | _, s, [] => if s.openIfs = 0 then .ok s else .error .nesting
  | 0, _, _ :: _ => .error .table
  | fuel + 1, s, l :: rest => do
    let r ← assembleOne o s l rest
    assemblePass o fuel r.1 r.2

/-- Pass 1 defines the symbols, pass 2 places the words (R103, R104). Both begin at address 000, which is where a text without an ORG
goes (DESIGN CHOICE, log 43). -/
def assemble (o : AsmOptions) (fuel : Nat) (text : List Statement) : Except AsmError (List Host.Cell) := do
  let start : AsmState :=
    { second := false, location := 0x000#12, table := [], defined := [], macros := [], openIfs := 0, words := [] }
  let first ← assemblePass o fuel start text
  let final ← assemblePass o fuel { start with second := true, table := first.table } text
  return final.words

end Sys2Proof.Machine
end

