-- ==== Sys2Proof/Tests/Slice0.lean ====
section
/-! SUPPORT. The model's own tests. Expected results come from spec/95_test_vectors.md (the section is named) or from the rule
named; then, for each statement of Certificates/Slice0/Obligations.lean that has hypotheses, a concrete state and operands that
meet them, at the boundary values of its clauses. -/

namespace Sys2Proof.Tests

open Sys2Proof Sys2Proof.Machine

/-! ### Helpers -/

/-- The outcome is a next state of which `p` holds. -/
def nextIs (o : Host.Outcome State Fault Refusal) (p : State → Bool) : Bool :=
  match o with
  | .next t => p t
  | .fault _ => false
  | .refused _ => false

/-- The outcome is that fault. -/
def faultIs (o : Host.Outcome State Fault Refusal) (r : Fault) : Bool :=
  match o with
  | .next _ => false
  | .fault q => q == r
  | .refused _ => false

/-- The outcome is that refusal. -/
def refusalIs (o : Host.Outcome State Fault Refusal) (r : Refusal) : Bool :=
  match o with
  | .next _ => false
  | .fault _ => false
  | .refused q => q == r

/-- The instruction that exactly these words decode to. -/
def reads (ws : List Byte) : Option Instr :=
  match decode ws with
  | .ok (i, []) => some i
  | .ok (_, _ :: _) => none
  | .error _ => none

/-- One step's inputs: Test level, request level, port lines. -/
def inputsOf (test : Bit) (int : Bool) (port : Nibble) : Inputs := { test := test, int := int, port := port, moves := [] }

/-- After reset, with ACC, CY and PC given and quiet inputs (Test 0, no request, port lines 6) for one step. -/
def at0 (acc : Nibble) (cy : Bit) (pc : Addr) : State :=
  { State.reset with acc := acc, cy := cy, pc := pc, inputs := [inputsOf 0#1 false 6#4] }

/-- The same state with the stack as a list. -/
def withLevels (s : State) (l : List Addr) : State := { s with stack := { s.stack with levels := l } }

/-- The same state with a circular stack of depth 3 (log 3). -/
def onRing (s : State) (sp : Nat) : State :=
  { s with plat := { s.plat with stackWrap := true, stackDepth := 3 }, stack := { levels := [], ar := [1, 2, 3, 4], sp := sp } }

/-- The same state on a 4004 with three levels. -/
def on4004 (s : State) : State := { s with plat := { s.plat with cpu := .c4004, stackDepth := 3 } }

/-- The same state after a SRC of `a` in data RAM bank 0 and ROM bank 0. -/
def afterSrc (s : State) (a : Byte) : State :=
  { s with sel := put (w := 3) s.sel 0#3 (some a), romSel := put (w := 1) s.romSel 0#1 (some a), srcReg := some a }

/-- The same state with that map of chips in every bank. -/
def onBanks (s : State) (m : BankMap) : State := { s with plat := { s.plat with banks := Vector.replicate 8 m } }

/-- A 4269 at chip 1 of every bank, selected with SRC 40, in those modes and with that FIFO. -/
def on4269 (s : State) (m : Option (OutMode × InMode)) (fifo : List KeyEntry) : State :=
  { onBanks (afterSrc s 0x40#8) { BankMap.allRam with chip1 := .dev4269 } with
    kd := Vector.replicate 8 { Kd4269.reset with modes := m, fifo := fifo, sens := Vector.replicate 8 0xB4#8 } }

/-- A lone 4265 at chip 2 of every bank, selected with SRC 80, in that mode. -/
def on4265 (s : State) (m : Option (Fin 14)) (enabled : Bool) : State :=
  { onBanks (afterSrc s 0x80#8) { chip0Ram := false, chip1 := .empty, chip2 := .dev4265, chip3 := .empty } with
    io := Vector.replicate 16 { Io4265.reset false with mode := m, enabled := enabled } }

/-- Every page of program memory, read/write. -/
def allPages : List (Bit × Nibble) :=
  (List.range 16).map (fun n => (0#1, BitVec.ofNat 4 n)) ++ (List.range 16).map (fun n => (1#1, BitVec.ofNat 4 n))

/-- The same state on a platform where all program memory is program RAM, under 4289s if `by4289`, else under a 4008/4009. -/
def onProgRam (s : State) (by4289 : Bool) : State :=
  { s with plat := { s.plat with progRamPages := allPages, pages4289 := if by4289 then allPages else [] } }

/-- A word of true ROM. -/
def romWord (s : State) (a : Addr) (w : Byte) : State :=
  { s with mem := { s.mem with rom := writeCell s.mem.rom (progKey 0#1 a) w } }

/-! ### Well-formedness -/

/-- R2, R97: each of the fourteen 4040-only instructions is refused on a 4004 and accepted on a 4040. -/
theorem test_wellFormed_4040_only :
    ([.hlt, .bbs, .lcr, .or4, .or5, .an6, .an7, .db0, .db1, .sb0, .sb1, .ein, .din, .rpm] : List Instr).all
      (fun i => !i.WellFormed .c4004 && i.WellFormed .c4040) = true := by decide

/-- R2: the others are accepted on both. -/
theorem test_wellFormed_both :
    ([.nop, .jcn 4#4 8#8, .bbl 0#4, .src 7#3, .wpm, .rd3, .dcl] : List Instr).all
      (fun i => i.WellFormed .c4004 && i.WellFormed .c4040) = true := by decide

/-! ### Decoding: words written out from the OPR and OPA columns of the card (95_test_vectors.md 1.1) -/

theorem test_decode_machine :
    [[0b00000000#8], [0b00010100#8, 0b00001000#8], [0b00100100#8, 0b11000011#8], [0b00110010#8], [0b00110101#8],
      [0b01001100#8, 0b11011110#8], [0b01010010#8, 0b00000000#8], [0b01100101#8], [0b01110001#8, 0b01000000#8],
      [0b10000110#8], [0b10010110#8], [0b10101001#8], [0b10111001#8], [0b11001001#8], [0b11011111#8]].map reads =
    [.nop, .jcn 0b0100#4 0x08#8, .fim 2#3 0xC3#8, .fin 1#3, .jin 2#3, .jun 0xCDE#12, .jms 0x200#12, .inc 5#4, .isz 1#4 0x40#8,
      .add 6#4, .sub 6#4, .ld 9#4, .xch 9#4, .bbl 9#4, .ldm 15#4].map some := by decide

theorem test_decode_accumulator :
    [[0b11110000#8], [0b11110001#8], [0b11110010#8], [0b11110011#8], [0b11110100#8], [0b11110101#8], [0b11110110#8],
      [0b11110111#8], [0b11111000#8], [0b11111001#8], [0b11111010#8], [0b11111011#8], [0b11111100#8], [0b11111101#8]].map reads =
    [.clb, .clc, .iac, .cmc, .cma, .ral, .rar, .tcc, .dac, .tcs, .stc, .daa, .kbp, .dcl].map some := by decide

theorem test_decode_4040_only :
    [[0b00000001#8], [0b00000010#8], [0b00000011#8], [0b00000100#8], [0b00000101#8], [0b00000110#8], [0b00000111#8],
      [0b00001000#8], [0b00001001#8], [0b00001010#8], [0b00001011#8], [0b00001100#8], [0b00001101#8], [0b00001110#8]].map reads =
    [.hlt, .bbs, .lcr, .or4, .or5, .an6, .an7, .db0, .db1, .sb0, .sb1, .ein, .din, .rpm].map some := by decide

theorem test_decode_io_ram :
    [[0b00101111#8], [0b11100000#8], [0b11100001#8], [0b11100010#8], [0b11100011#8], [0b11100100#8], [0b11100101#8],
      [0b11100110#8], [0b11100111#8], [0b11101000#8], [0b11101001#8], [0b11101010#8], [0b11101011#8], [0b11101100#8],
      [0b11101101#8], [0b11101110#8], [0b11101111#8]].map reads =
    [.src 7#3, .wrm, .wmp, .wrr, .wpm, .wr0, .wr1, .wr2, .wr3, .sbm, .rdm, .rdr, .adm, .rd0, .rd1, .rd2, .rd3].map some := by
  decide

/-- 95_test_vectors.md 1.1, "checks a decoder must pass": the bit OPA[0] tells SRC from FIM and JIN from FIN. -/
theorem test_decode_pairs :
    [[0x2F#8], [0x2E#8, 0xA5#8], [0x31#8], [0x30#8]].map reads =
      [some (.src 7#3), some (.fim 7#3 0xA5#8), some (.jin 0#3), some (.fin 0#3)] := by decide

/-- R96: 0F, FE and FF have no row. R90: a two-word instruction needs its second word. -/
theorem test_decode_rejects :
    [[0x0F#8], [0xFE#8], [0xFF#8], [0x40#8], [], [0x00#8, 0x00#8]].map reads = List.replicate 6 none := by decide

/-- opcode_table.json: the second word is bits 15..8. -/
theorem test_decodeTableWord : decodeTableWord 16 0xDE4C = some (.jun 0xCDE#12) ∧ decodeTableWord 8 0xFF = none := by decide

/-! ### Machine instructions (95_test_vectors.md 2.1 to 2.3) -/

theorem test_nop : nextIs (step (State.reset.withFetchWord 8 0x00)) (fun t => t.pc == 1#12 && t.clock == 1) = true := by decide

theorem test_jcn_page :
    ([(0x1FC#12, 0x134#12), (0x1FD#12, 0x134#12), (0x1FE#12, 0x234#12), (0x1FF#12, 0x234#12), (0xFFE#12, 0x034#12)]).all
      (fun x => nextIs (exec (.jcn 8#4 0x34#8) (at0 0#4 0#1 x.1)) (fun t => t.pc == x.2)) = true := by decide

/-- The whole table of 2.3: a row is a condition, its columns are z c t = 111, 110, ..., 000 from the high bit down. -/
theorem test_jcn_conditions :
    (([0b00000000, 0b01010101, 0b11001100, 0b11011101, 0b11110000, 0b11110101, 0b11111100, 0b11111101,
       0b11111111, 0b10101010, 0b00110011, 0b00100010, 0b00001111, 0b00001010, 0b00000011, 0b00000010] : List (BitVec 8)).zipIdx.all
      fun row => (List.range 8).all fun k =>
        jcnTaken (BitVec.ofNat 4 row.2)
          { at0 (if k / 4 = 1 then 0#4 else 5#4) (BitVec.ofNat 1 (k / 2)) 0#12 with
            inputs := [inputsOf (BitVec.ofNat 1 k) false 0#4] } == row.1.getLsbD k) = true := by decide

theorem test_fim : nextIs (exec (.fim 7#3 0xA5#8) (at0 0#4 0#1 0#12))
    (fun t => reg t 14#4 == 0xA#4 && reg t 15#4 == 5#4 && t.pc == 2#12) = true := by decide

theorem test_fin_page :
    ([(0x4FE#12, 0x9C#8, 0x4FF#12), (0x4FF#12, 0x6D#8, 0x500#12)]).all
      (fun x => nextIs (exec (.fin 3#3) (setPair (romWord (romWord (at0 0#4 0#1 x.1) 0x420#12 0x9C#8) 0x520#12 0x6D#8) 0#3 0x20#8))
        (fun t => pair t 3#3 == x.2.1 && t.pc == x.2.2)) = true := by decide

theorem test_fin_own_pair :
    nextIs (exec (.fin 0#3) (setPair (romWord (at0 0#4 0#1 0x100#12) 0x145#12 0xE7#8) 0#3 0x45#8))
      (fun t => reg t 0#4 == 0xE#4 && reg t 1#4 == 7#4 && t.pc == 0x101#12) = true := by decide

theorem test_jin_page :
    ([(0x3FE#12, 0x3AB#12), (0x3FF#12, 0x4AB#12), (0xFFF#12, 0x0AB#12)]).all
      (fun x => nextIs (exec (.jin 2#3) (setPair (at0 0#4 0#1 x.1) 2#3 0xAB#8)) (fun t => t.pc == x.2)) = true := by decide

theorem test_jun : nextIs (step ((at0 0#4 0#1 0x7AB#12).withFetchWord 16 0xDE4C)) (fun t => t.pc == 0xCDE#12) = true := by decide

theorem test_jms :
    nextIs (exec (.jms 0x200#12) (at0 0#4 0#1 0xFFE#12)) (fun t => t.stack.levels == [0#12] && t.pc == 0x200#12) = true ∧
    nextIs (exec (.jms 0x321#12) (withLevels (on4004 (at0 0#4 0#1 0x010#12)) [0x111#12, 0x222#12]))
      (fun t => t.stack.levels == [0x111#12, 0x222#12, 0x012#12] && t.pc == 0x321#12) = true := by decide

theorem test_jms_full :
    faultIs (exec (.jms 0x321#12) (withLevels (on4004 (at0 0#4 0#1 0x010#12)) [0x111#12, 0x222#12, 0x333#12]))
      (.stackOverflow 0x010#12) = true ∧
    faultIs (exec (.jms 0x321#12) (withLevels (at0 0#4 0#1 0x010#12) [1, 2, 3, 4, 5, 6, 7])) (.stackOverflow 0x010#12) = true := by
  decide

theorem test_inc : nextIs (exec (.inc 5#4) (setReg (at0 0#4 1#1 0#12) 5#4 15#4))
    (fun t => reg t 5#4 == 0#4 && t.cy == 1#1 && t.pc == 1#12) = true := by decide

theorem test_isz :
    ([(0#12, 0xE#4, 0xF#4, 0x040#12), (0#12, 0xF#4, 0#4, 0x002#12), (0#12, 0#4, 1#4, 0x040#12), (0x2FE#12, 0#4, 1#4, 0x340#12),
      (0x2FE#12, 0xF#4, 0#4, 0x300#12)]).all
      (fun x => nextIs (exec (.isz 1#4 0x40#8) (setReg (at0 0#4 0#1 x.1) 1#4 x.2.1))
        (fun t => reg t 1#4 == x.2.2.1 && t.pc == x.2.2.2)) = true := by decide

/-- 2.1: ACC, IR, CY; then ACC and CY after ADD and after SUB. -/
theorem test_add_sub :
    ([(0, 0, 0, 0, 0, 0, 1), (0, 0, 1, 1, 0, 15, 0), (7, 5, 1, 13, 0, 1, 1), (9, 8, 0, 1, 1, 1, 1), (15, 15, 1, 15, 1, 15, 0),
      (15, 0, 1, 0, 1, 14, 1), (3, 5, 0, 8, 0, 14, 0), (5, 5, 0, 10, 0, 0, 1), (0, 15, 1, 0, 1, 0, 0)] :
        List (Nibble × Nibble × Bit × Nibble × Bit × Nibble × Bit)).all
      (fun x => nextIs (exec (.add 6#4) (setReg (at0 x.1 x.2.2.1 0#12) 6#4 x.2.1))
          (fun t => t.acc == x.2.2.2.1 && t.cy == x.2.2.2.2.1 && reg t 6#4 == x.2.1) &&
        nextIs (exec (.sub 6#4) (setReg (at0 x.1 x.2.2.1 0#12) 6#4 x.2.1))
          (fun t => t.acc == x.2.2.2.2.2.1 && t.cy == x.2.2.2.2.2.2 && reg t 6#4 == x.2.1)) = true := by decide

theorem test_ld_xch :
    nextIs (exec (.ld 9#4) (setReg (at0 1#4 1#1 0#12) 9#4 6#4)) (fun t => t.acc == 6#4 && reg t 9#4 == 6#4 && t.cy == 1#1) = true ∧
    nextIs (exec (.xch 9#4) (setReg (at0 1#4 1#1 0#12) 9#4 6#4)) (fun t => t.acc == 6#4 && reg t 9#4 == 1#4 && t.cy == 1#1) = true := by
  decide

theorem test_bbl :
    nextIs (exec (.bbl 9#4) (withLevels (at0 0#4 1#1 0x050#12) [0x111#12, 0x222#12]))
      (fun t => t.stack.levels == [0x111#12] && t.pc == 0x222#12 && t.acc == 9#4 && t.cy == 1#1) = true ∧
    faultIs (exec (.bbl 0#4) (at0 0#4 0#1 0x050#12)) (.stackUnderflow 0x050#12) = true := by decide

theorem test_ldm : nextIs (exec (.ldm 15#4) (at0 1#4 1#1 0#12)) (fun t => t.acc == 15#4 && t.cy == 1#1) = true := by decide

/-! ### Accumulator group (2.4): the columns 0,0; 0,1; 1,0; 5,1; 8,0; 9,0; 9,1; A,0; C,0; F,0; F,1 -/

/-- ACC and CY before, as the header of 2.4 gives them. -/
def before24 : List (Nibble × Bit) :=
  [(0, 0), (0, 1), (1, 0), (5, 1), (8, 0), (9, 0), (9, 1), (0xA, 0), (0xC, 0), (0xF, 0), (0xF, 1)]

/-- A row of 2.4: the instruction and ACC, CY after for each column. -/
def row24 (i : Instr) (after : List (Nibble × Bit)) : Bool :=
  (before24.zip after).all fun x => nextIs (exec i (at0 x.1.1 x.1.2 0#12)) fun t => t.acc == x.2.1 && t.cy == x.2.2 && t.pc == 1#12

theorem test_clb : row24 .clb (List.replicate 11 (0, 0)) = true := by decide
theorem test_clc : row24 .clc [(0, 0), (0, 0), (1, 0), (5, 0), (8, 0), (9, 0), (9, 0), (0xA, 0), (0xC, 0), (0xF, 0), (0xF, 0)] = true := by
  decide
theorem test_iac : row24 .iac [(1, 0), (1, 0), (2, 0), (6, 0), (9, 0), (0xA, 0), (0xA, 0), (0xB, 0), (0xD, 0), (0, 1), (0, 1)] = true := by
  decide
theorem test_cmc : row24 .cmc [(0, 1), (0, 0), (1, 1), (5, 0), (8, 1), (9, 1), (9, 0), (0xA, 1), (0xC, 1), (0xF, 1), (0xF, 0)] = true := by
  decide
theorem test_cma : row24 .cma [(0xF, 0), (0xF, 1), (0xE, 0), (0xA, 1), (7, 0), (6, 0), (6, 1), (5, 0), (3, 0), (0, 0), (0, 1)] = true := by
  decide
theorem test_ral : row24 .ral [(0, 0), (1, 0), (2, 0), (0xB, 0), (0, 1), (2, 1), (3, 1), (4, 1), (8, 1), (0xE, 1), (0xF, 1)] = true := by
  decide
theorem test_rar : row24 .rar [(0, 0), (8, 0), (0, 1), (0xA, 1), (4, 0), (4, 1), (0xC, 1), (5, 0), (6, 0), (7, 1), (0xF, 1)] = true := by
  decide
theorem test_tcc : row24 .tcc [(0, 0), (1, 0), (0, 0), (1, 0), (0, 0), (0, 0), (1, 0), (0, 0), (0, 0), (0, 0), (1, 0)] = true := by
  decide
theorem test_dac : row24 .dac [(0xF, 0), (0xF, 0), (0, 1), (4, 1), (7, 1), (8, 1), (8, 1), (9, 1), (0xB, 1), (0xE, 1), (0xE, 1)] = true := by
  decide
theorem test_tcs : row24 .tcs [(9, 0), (0xA, 0), (9, 0), (0xA, 0), (9, 0), (9, 0), (0xA, 0), (9, 0), (9, 0), (9, 0), (0xA, 0)] = true := by
  decide
theorem test_stc : row24 .stc [(0, 1), (0, 1), (1, 1), (5, 1), (8, 1), (9, 1), (9, 1), (0xA, 1), (0xC, 1), (0xF, 1), (0xF, 1)] = true := by
  decide
theorem test_daa : row24 .daa [(0, 0), (6, 1), (1, 0), (0xB, 1), (8, 0), (9, 0), (0xF, 1), (0, 1), (2, 1), (5, 1), (5, 1)] = true := by
  decide
theorem test_kbp : row24 .kbp [(0, 0), (0, 1), (1, 0), (0xF, 1), (4, 0), (0xF, 0), (0xF, 1), (0xF, 0), (0xF, 0), (0xF, 0), (0xF, 1)] = true := by
  decide
theorem test_dcl :
    ([(0b1010#4, 2#3), (0b1000#4, 0#3), (0b0111#4, 7#3)]).all
      (fun x => nextIs (exec .dcl (at0 x.1 0#1 0#12)) (fun t => t.cr == x.2 && t.acc == x.1)) = true := by decide

/-! ### 4040-only instructions (2.5) -/

theorem test_hlt : nextIs (exec .hlt (at0 0#4 0#1 0#12)) (fun t => t.halted && t.pc == 1#12) = true := by decide

theorem test_bbs :
    ([0#3, 2#3]).all (fun c =>
      nextIs (exec .bbs { withLevels (at0 7#4 0#1 0#12) [0x123#12] with srcReg := some 0x4A#8, cr := c, inService := true })
        (fun t => t.pc == 0x123#12 && t.stack.levels == [] && look (w := 3) t.sel c == some 0x4A#8 &&
          look (w := 1) t.romSel 0#1 == some 0x4A#8 && !t.inService && t.acc == 7#4 &&
          look (w := 3) t.sel 0#3 == (if c = 0#3 then some 0x4A#8 else none))) = true := by decide

theorem test_bbs_stops :
    faultIs (exec .bbs (withLevels (at0 0#4 0#1 9#12) [5#12])) (.ioBeforeSrc 9#12) = true ∧
    faultIs (exec .bbs (at0 0#4 0#1 9#12)) (.stackUnderflow 9#12) = true := by decide

theorem test_lcr :
    nextIs (exec .lcr { at0 0#4 1#1 0#12 with bank := { rb := 1#1, next := 1#1, count := 0 }, cr := 2#3 })
      (fun t => t.acc == 0xA#4 && t.cy == 1#1) = true ∧
    nextIs (exec .lcr { at0 0#4 0#1 0#12 with cr := 7#3 }) (fun t => t.acc == 7#4) = true := by decide

theorem test_or_and :
    nextIs (exec .or4 (setReg (at0 1#4 1#1 0#12) 4#4 0xC#4)) (fun t => t.acc == 0xD#4 && reg t 4#4 == 0xC#4 && t.cy == 1#1) = true ∧
    nextIs (exec .or5 (setReg (at0 5#4 1#1 0#12) 5#4 3#4)) (fun t => t.acc == 7#4 && reg t 5#4 == 3#4 && t.cy == 1#1) = true ∧
    nextIs (exec .an6 (setReg (at0 0xD#4 1#1 0#12) 6#4 5#4)) (fun t => t.acc == 5#4 && reg t 6#4 == 5#4 && t.cy == 1#1) = true ∧
    nextIs (exec .an7 (setReg (at0 7#4 1#1 0#12) 7#4 0xA#4)) (fun t => t.acc == 2#4 && reg t 7#4 == 0xA#4 && t.cy == 1#1) = true := by
  decide

/-- P7: after DB1 with a delay of 2 the switch is pending; with a delay of 0 it is done. -/
theorem test_db1 :
    nextIs (exec .db1 (at0 0#4 0#1 0#12)) (fun t => t.bank == { rb := 0#1, next := 1#1, count := 2 }) = true ∧
    nextIs (exec .db1 { at0 0#4 0#1 0#12 with plat := { Platform.reset with romBankDelay := 0 } })
      (fun t => t.bank == { rb := 1#1, next := 1#1, count := 0 }) = true := by decide

theorem test_db0 : nextIs (exec .db0 { at0 0#4 0#1 0#12 with bank := { rb := 1#1, next := 1#1, count := 0 } })
    (fun t => t.bank == { rb := 1#1, next := 0#1, count := 2 }) = true := by decide

/-- Registers 3 and 9 in the two banks' place of register 4, 6 in register 8. -/
def irBanks (sb : Bit) : State :=
  { at0 0#4 0#1 0#12 with
    sb := sb
    ir := { bank0 := Vector.replicate 8 3#4, bank1 := Vector.replicate 8 9#4, common := Vector.replicate 8 6#4 } }

theorem test_sb :
    nextIs (exec .sb1 (irBanks 0#1)) (fun t => t.sb == 1#1 && reg t 4#4 == 9#4 && reg t 8#4 == 6#4) = true ∧
    nextIs (exec .sb0 (irBanks 1#1)) (fun t => t.sb == 0#1 && reg t 4#4 == 3#4 && reg t 8#4 == 6#4) = true := by decide

theorem test_ein_din :
    nextIs (exec .ein (at0 0#4 0#1 0#12)) (fun t => t.ie) = true ∧
    nextIs (exec .din { at0 0#4 0#1 0#12 with ie := true }) (fun t => !t.ie) = true := by decide

/-- RPM on a platform without program RAM: the accumulator is a free value, the selector still moves. -/
theorem test_rpm : nextIs (exec .rpm (at0 0#4 0#1 0#12)) (fun t => t.halfSel == .second && t.pc == 1#12) = true := by decide

theorem test_4040_only_on_4004 :
    faultIs (exec .hlt (on4004 (at0 0#4 0#1 5#12))) (.notExecutableOn4004 5#12 0x01#8) = true ∧
    faultIs (exec .rpm (on4004 (at0 0#4 0#1 5#12))) (.notExecutableOn4004 5#12 0x0E#8) = true := by decide

/-! ### SRC, RAM and ports (2.6, P8, P9) -/

theorem test_src : nextIs (exec (.src 1#3) (setPair (at0 0#4 0#1 0#12) 1#3 0x69#8))
    (fun t => selNow t == some 0x69#8 && look (w := 1) t.romSel 0#1 == some 0x69#8 && t.srcReg == some 0x69#8) = true := by decide

/-- R33: in service SRCREG keeps its value. -/
theorem test_src_in_service :
    nextIs (exec (.src 1#3) { setPair (at0 0#4 0#1 0#12) 1#3 0x77#8 with srcReg := some 0x2A#8, inService := true })
      (fun t => selNow t == some 0x77#8 && t.srcReg == some 0x2A#8) = true := by decide

/-- R65: chip 1, register 2, character 9 of bank 0; the status character of number 2; the port of chip 1; ROM port 6. -/
theorem test_writes_4002 :
    nextIs (exec .wrm (afterSrc (at0 6#4 0#1 0#12) 0x69#8)) (fun t => t.mem.ramch == [(64 + 32 + 9, 6#4)]) = true ∧
    nextIs (exec .wmp (afterSrc (at0 6#4 0#1 0#12) 0x69#8)) (fun t => t.mem.ramport == [(1, 6#4)]) = true ∧
    nextIs (exec .wr2 (afterSrc (at0 6#4 0#1 0#12) 0x69#8)) (fun t => t.mem.ramst == [((4 + 2) * 4 + 2, 6#4)]) = true ∧
    nextIs (exec .wrr (afterSrc (at0 6#4 0#1 0#12) 0x69#8)) (fun t => t.mem.romport == [(6, 6#4)]) = true := by decide

theorem test_status_characters :
    nextIs (exec .wr0 (afterSrc (at0 6#4 0#1 0#12) 0x69#8)) (fun t => t.mem.ramst == [(24, 6#4)]) = true ∧
    nextIs (exec .wr1 (afterSrc (at0 6#4 0#1 0#12) 0x69#8)) (fun t => t.mem.ramst == [(25, 6#4)]) = true ∧
    nextIs (exec .wr3 (afterSrc (at0 6#4 0#1 0#12) 0x69#8)) (fun t => t.mem.ramst == [(27, 6#4)]) = true := by decide

/-- Selected chip 1, register 0: the character is 6 and the status characters are 8, 9, 10, 11. -/
def filled : State :=
  { afterSrc (at0 7#4 1#1 0#12) 0x40#8 with
    mem := { Memory.empty with ramch := [(64, 6#4)], ramst := [(16, 8#4), (17, 9#4), (18, 10#4), (19, 11#4)] } }

theorem test_reads_4002 :
    nextIs (exec .rdm filled) (fun t => t.acc == 6#4 && t.cy == 1#1) = true ∧
    nextIs (exec .adm filled) (fun t => t.acc == 14#4 && t.cy == 0#1) = true ∧
    nextIs (exec .sbm filled) (fun t => t.acc == 0#4 && t.cy == 1#1) = true := by decide

theorem test_read_status :
    nextIs (exec .rd0 filled) (fun t => t.acc == 8#4) = true ∧ nextIs (exec .rd1 filled) (fun t => t.acc == 9#4) = true ∧
    nextIs (exec .rd2 filled) (fun t => t.acc == 10#4) = true ∧ nextIs (exec .rd3 filled) (fun t => t.acc == 11#4) = true := by decide

theorem test_rdr : nextIs (exec .rdr (afterSrc (at0 0#4 1#1 0#12) 0x40#8)) (fun t => t.acc == 6#4 && t.cy == 1#1) = true := by decide

/-- P9. -/
theorem test_io_before_src : faultIs (exec .wrm (at0 5#4 0#1 1#12)) (.ioBeforeSrc 1#12) = true := by decide

theorem test_wpm_no_program_ram :
    nextIs (exec .wpm (at0 5#4 0#1 0#12)) (fun t => t.mem.pram == [] && t.halfSel == .second && t.pc == 1#12) = true := by decide

/-! ### The devices (2.7, 2.8) -/

/-- Steps 3, 6, 7 of 2.7 and the alternation of a gas discharge mode. -/
theorem test_4269_display :
    nextIs (exec .wr0 (on4269 (at0 1#4 0#1 0#12) none [])) (fun t => (kdNow t).modes == some (.individual, .contact)) = true ∧
    kdSrc 0x42#8 { Kd4269.reset with modes := some (.individual, .contact), blankA := true } =
      { Kd4269.reset with modes := some (.individual, .contact), ptr := { side := .a, n := 2#4 } } ∧
    nextIs (exec .wrm (on4269 (at0 7#4 0#1 0#12) (some (.individual, .contact)) []))
      (fun t => look (w := 4) (kdNow t).regA 0#4 == 7#4 && (kdNow t).ptr == { side := .a, n := 1#4 }) = true ∧
    nextIs (exec .wrm (on4269 (at0 1#4 0#1 0#12) (some (.gas16, .contact)) []))
      (fun t => look (w := 4) (kdNow t).regA 0#4 == 1#4 && (kdNow t).ptr == { side := .b, n := 0#4 }) = true := by decide

/-- Steps 17, 19, 22 of 2.7 and the sensor reading. -/
theorem test_4269_reads :
    nextIs (exec .rd1 (on4269 (at0 0#4 0#1 0#12) (some (.individual, .contact)) [{ first := 2#4, second := 0xC#4 }]))
      (fun t => t.acc == 2#4 && (kdNow t).fifo == [{ first := 2#4, second := 0xC#4 }]) = true ∧
    nextIs (exec .rd2 (on4269 (at0 0#4 0#1 0#12) (some (.individual, .contact)) [{ first := 2#4, second := 0xC#4 }]))
      (fun t => t.acc == 0xC#4 && (kdNow t).fifo == []) = true ∧
    nextIs (exec .rd1 (on4269 (at0 0#4 0#1 0#12) (some (.individual, .sensor)) [])) (fun t => t.acc == 0xB#4) = true ∧
    faultIs (exec .adm (on4269 (at0 0#4 0#1 3#12) (some (.individual, .contact)) [])) (.unmodelledDeviceOp 3#12 .dev4269 0xEB#8) =
      true := by decide

/-- Steps 2, 3, 5, 7, 16 to 18 of 2.8. -/
theorem test_4265_writes :
    faultIs (exec .wr0 (on4265 (at0 0#4 0#1 3#12) none false)) (.unmodelledDeviceOp 3#12 .dev4265 0xE4#8) = true ∧
    nextIs (exec .wmp (on4265 (at0 2#4 0#1 0#12) none false)) (fun t => (ioAt t 0#3 0#1).mode == some 2) = true ∧
    nextIs (exec .wr0 (on4265 (at0 0xA#4 0#1 0#12) (some 2) true)) (fun t => (ioAt t 0#3 0#1).outW == 0xA#4) = true ∧
    nextIs (exec .wr3 (on4265 (at0 3#4 0#1 0#12) (some 2) true))
      (fun t => ioAt t 0#3 0#1 == { Io4265.reset false with mode := some 2, enabled := true }) = true ∧
    nextIs (exec (.src 1#3) (setPair (on4265 (at0 0#4 0#1 0#12) (some 12) true) 1#3 0x3B#8))
      (fun t => (ioAt t 0#3 0#1).outW == 3#4 && (ioAt t 0#3 0#1).outX == 0xB#4) = true := by decide

/-- Step 9 of 2.8, with W = 5: a read of an output port returns its latch. -/
theorem test_4265_reads :
    nextIs (exec .rd0 { on4265 (at0 0#4 0#1 0#12) (some 2) true with
        io := Vector.replicate 16 { Io4265.reset false with mode := some 2, enabled := true, outW := 5#4 } })
      (fun t => t.acc == 5#4) = true := by decide

/-! ### Interrupt and halt (2.9) -/

/-- A 4040 with those flags, PC = 057 and that request level, a NOP at 057. -/
def atBoundary (ie inService halted int : Bool) : State :=
  { (at0 0#4 0#1 0x057#12).withFetchWord 8 0x00 with
    ie := ie, inService := inService, halted := halted, inputs := [inputsOf 0#1 int 0#4] }

theorem test_interrupt_entry :
    nextIs (step (atBoundary true false true true))
      (fun t => t.stack.levels == [0x057#12] && t.pc == 3#12 && t.inService && !t.halted && t.ie) = true ∧
    faultIs (step (withLevels (atBoundary true false false true) [1, 2, 3, 4, 5, 6, 7])) (.stackOverflow 0x057#12) = true := by decide

theorem test_no_interrupt_entry :
    ([atBoundary false false false true, atBoundary true true false true, atBoundary true false false false,
      on4004 (atBoundary true false false true)]).all (fun s => nextIs (step s) (fun t => t.pc == 0x058#12)) = true := by decide

theorem test_halt :
    nextIs (step (atBoundary true false true false)) (fun t => t.halted && t.pc == 0x057#12) = true ∧
    nextIs (step (atBoundary false false true true)) (fun t => t.halted) = true ∧
    nextIs (step { atBoundary false false true true with plat := { Platform.reset with haltExitWhenDisabled := true } })
      (fun t => !t.halted && t.pc == 0x057#12 && t.stack.levels == []) = true := by decide

/-- R70, R99: what stops a fetch. -/
theorem test_fetch_stops :
    faultIs (step State.reset) (.noProgramMemory 0#12 0#1 0#12) = true ∧
    faultIs (step (State.reset.withFetchWord 8 0xFF)) (.illegalInstruction 0#12 0xFF#8) = true := by decide

/-- R318: (a) a JUN to its own address; (b) a halted processor, with and without a request at the top of the step. -/
theorem test_run_ends :
    atSelfJump ((at0 0 0 0x100#12).withFetchWord 16 0x0041) = true ∧ atSelfJump ((at0 0 0 0x100#12).withFetchWord 16 0x0141) = false ∧
    requestNow (atBoundary true false true true) = true ∧ requestNow (atBoundary true false true false) = false := by decide

/-- P7 of 95_test_vectors.md with delay 3: the run ends at 021 with ACC = 3 and RB = 1, the bank that the JUN's words come from. -/
theorem test_p7_delay_3 :
    let words := [(0#1, 0x000#12, 0x09#8), (0#1, 0x001#12, 0x40#8), (0#1, 0x002#12, 0x20#8), (0#1, 0x020#12, 0xD3#8),
      (1#1, 0x021#12, 0x40#8), (1#1, 0x022#12, 0x21#8)]
    let start := { State.resetOn { Platform.reset with romBankDelay := 3 } with
      mem := { Memory.empty with rom := words.foldl (fun rom x => writeCell rom (progKey x.1 x.2.1) x.2.2) [] }
      inputs := List.replicate 4 (inputsOf 0#1 false 0#4) }
    (match runUntilEnd 3 start with
      | .selfJump t => t.acc == 3#4 && t.bank.rb == 1#1 && t.pc == 0x021#12
      | .stopped _ => false
      | .waiting _ => false
      | .running _ => false) = true := by decide

/-- R253, D28: on a platform whose 4265s start enabled, they do. -/
theorem test_4265_enabled_at_reset :
    (ioAt (State.resetOn { Platform.reset with enabled4265 := true }) 0#3 0#1).enabled = true ∧
    (ioAt State.reset 0#3 0#1).enabled = false := by decide

/-! ### The assembler tables (R102, R103) -/

/-- A statement without a label. -/
def line (c : Code) : Statement := { label := none, code := c }

/-- A statement with a label. -/
def labelled (x : Symbol) (c : Code) : Statement := { label := some x, code := c }

/-- Assembled by MAC4 for a 4040 and ROM bank 1. -/
def mac4 (text : List Statement) : Except AsmError (List Host.Cell) := assemble { mac4 := true, cpu := .c4040, rb := 1#1 } 40 text

/-- SET twice, an IF of 0, a macro, ORG with a label used by JUN, words after END ignored. -/
theorem test_assemble :
    (mac4 [labelled 1 (.set (.num 1)), labelled 1 (.set (.num 2)), line (.ifBegin (.num 0)), line (.instr .clb []), line .ifEnd,
        labelled 2 (.macroBegin [7]), line (.instr (.ldm 0#4) [.sym 7]), line .macroEnd, labelled 3 (.org (.num 0x10)),
        line (.call 2 [.sym 1]), line (.instr (.jun 0#12) [.sym 3]), line .endOfText, line (.instr .clb [])]).toOption =
      some [(progKey 1#1 0x010#12, 0xD2#8), (progKey 1#1 0x011#12, 0x40#8), (progKey 1#1 0x012#12, 0x10#8)] := by decide

/-- The assembly ends in that error. -/
def errorIs (o : Except AsmError (List Host.Cell)) (e : AsmError) : Bool :=
  match o with
  | .ok _ => false
  | .error q => q == e

theorem test_assemble_errors :
    errorIs (mac4 [line (.ifBegin (.num 1)), line (.instr .clb [])]) .nesting = true ∧ errorIs (mac4 [line .ifEnd]) .nesting = true ∧
    errorIs (mac4 [labelled 1 (.equ (.num 1)), labelled 1 (.equ (.num 1))]) .multiple = true ∧
    errorIs (mac4 [line (.instr (.jun 0#12) [.sym 1])]) .undefined = true ∧
    errorIs (mac4 [line (.instr (.jms 0#12) [.num 4096])]) .address = true ∧
    errorIs (assemble { mac4 := true, cpu := .c4004, rb := 1#1 } 9 [line (.instr .hlt [])]) .only4040 = true ∧
    errorIs (assemble { mac4 := false, cpu := .c4040, rb := 1#1 } 9 [line .title]) .expression = true := by decide

/-! ### Witnesses: the hypotheses of each statement are met, at the boundary values of its clauses -/

theorem witness_EncodeOfDecode : (decode [0x14#8, 0x08#8, 0x77#8]).toOption = some (.jcn 4#4 8#8, [0x77#8]) := by decide

theorem witness_LengthByFirstWord :
    (decode [0x2E#8, 0xA5#8]).toOption = some (.fim 7#3 0xA5#8, []) ∧ (decode [0x2F#8]).toOption = some (.src 7#3, []) ∧
    (decode [0x1F#8, 0x00#8]).toOption = some (.jcn 15#4 0#8, []) ∧ (decode [0x60#8]).toOption = some (.inc 0#4, []) ∧
    (on4004 State.reset).plat.cpu = .c4004 ∧ encode .hlt = [0x01#8] ∧ encode .rpm = [0x0E#8] := by decide

/-- The hypotheses that FetchStops and StepRunsDecoded share, and the first word that the fetch reads. -/
def fetches (s : State) (w : Option Byte) : Bool :=
  !interruptRecognised (environmentMoves s) && !isHalted (environmentMoves s) &&
    progWord (bankUpdate (environmentMoves s)) (romBank (bankUpdate (environmentMoves s))) s.pc .fetch1Upper .fetch1Lower == w

theorem witness_FetchStops :
    (fetches State.reset none ∧ isProgRam State.reset.plat 0#1 0#12 = false ∧ readCell State.reset.mem.rom (progKey 0#1 0#12) = none) ∧
    ([0x0F#8, 0xFE#8, 0xFF#8, 0x0E#8, 0xFD#8] : List Byte).all (fun w => fetches (romWord State.reset 0#12 w) (some w)) ∧
    (fetches (romWord State.reset 0#12 0x40#8) (some 0x40#8) ∧ (decodeFirst 0x40#8).twoWords = true ∧
      readCell (romWord State.reset 0#12 0x40#8).mem.rom (progKey 0#1 1#12) = none) := by decide

theorem witness_StepRunsDecoded :
    (fetches (romWord State.reset 0#12 0x65#8) (some 0x65#8) ∧ (decode [0x65#8]).toOption = some (.inc 5#4, [])) ∧
    (fetches (romWord (romWord State.reset 0#12 0x4C#8) 1#12 0xDE#8) (some 0x4C#8) ∧
      progWord (romWord (romWord State.reset 0#12 0x4C#8) 1#12 0xDE#8) 0#1 1#12 .fetch2Upper .fetch2Lower = some 0xDE#8 ∧
      (decode [0x4C#8, 0xDE#8]).toOption = some (.jun 0xCDE#12, [])) := by decide

theorem witness_PairLoads :
    progWord (romWord (at0 0 0 0x0FE#12) 0#12 0x9C#8) 0#1 (0#4 ++ (0#4 ++ 0#4)) .finUpper .finLower = some 0x9C#8 ∧
    progWord (romWord (at0 0 0 0x0FF#12) 0x100#12 0x9C#8) 0#1 (1#4 ++ (0#4 ++ 0#4)) .finUpper .finLower = some 0x9C#8 ∧
    progWord (at0 0 0 0xFFF#12) 0#1 (0#4 ++ (0#4 ++ 0#4)) .finUpper .finLower = none := by decide

theorem witness_JinWithinPage :
    ((at0 0 0 0x3FE#12).pc.extractLsb' 0 8).toNat ≤ 0xFE ∧ ((at0 0 0 0xFFF#12).pc.extractLsb' 0 8).toNat = 0xFF := by decide

theorem witness_CallAndReturnOnList :
    let six := withLevels State.reset [1, 2, 3, 4, 5, 6]
    let seven := withLevels State.reset [1, 2, 3, 4, 5, 6, 7]
    six.plat.stackWrap = false ∧ six.stack.levels.length < six.plat.stackDepth ∧
    seven.plat.stackDepth ≤ seven.stack.levels.length ∧ seven.stack.levels = [1, 2, 3, 4, 5, 6] ++ [7] ∧
    (withLevels State.reset [1]).stack.levels = [] ++ [1] ∧ State.reset.stack.levels = [] := by decide

theorem witness_CallAndReturnOnRing :
    ([0, 3]).all (fun sp =>
      (onRing State.reset sp).plat.stackWrap && (onRing State.reset sp).stack.ar.length == (onRing State.reset sp).plat.stackDepth + 1 &&
        decide ((onRing State.reset sp).stack.sp ≤ (onRing State.reset sp).plat.stackDepth)) = true := by decide

/-- The invariant holds of the state after reset, so its fields can hold together. -/
theorem witness_Inv : State.reset.Inv where
  memory := by decide
  depth := by decide
  rings := by decide
  pointer := by decide
  pending := by decide
  only4040 := by decide
  fifos := by decide
  ports := by decide

/-- It holds too with the circular stack, at the last place of the pointer. -/
theorem witness_Inv_ring : (onRing State.reset 3).Inv where
  memory := by decide
  depth := by decide
  rings := by decide
  pointer := by decide
  pending := by decide
  only4040 := by decide
  fifos := by decide
  ports := by decide

theorem witness_BblResumesAfterJms :
    (∃ t, State.reset.Inv ∧ exec (.jms 0x200#12) State.reset = .next t ∧ (t.setAcc 5#4).stack = t.stack ∧
      (t.setAcc 5#4).plat = State.reset.plat ∧ 0 < State.reset.plat.stackDepth) ∧
    ∃ t, (onRing State.reset 3).Inv ∧ exec (.jms 0x200#12) (onRing State.reset 3) = .next t ∧ (t.setAcc 5#4).stack = t.stack ∧
      (t.setAcc 5#4).plat = (onRing State.reset 3).plat ∧ 0 < (onRing State.reset 3).plat.stackDepth :=
  ⟨⟨_, witness_Inv, rfl, rfl, rfl, by decide⟩, ⟨_, witness_Inv_ring, rfl, rfl, rfl, by decide⟩⟩

theorem witness_DaaAdjusts :
    ((at0 9 0 0).acc.toNat ≤ 9 ∧ (at0 9 0 0).cy = 0#1) ∧ ((at0 9 1 0).acc.toNat ≤ 9 ∧ (at0 9 1 0).cy = 1#1) ∧
      10 ≤ (at0 10 0 0).acc.toNat := by decide

theorem witness_DecimalAddition :
    (setReg (at0 9 1 0) 2#4 9#4).acc.toNat ≤ 9 ∧ (reg (setReg (at0 9 1 0) 2#4 9#4) 2#4).toNat ≤ 9 := by decide

theorem witness_KbpEncodes :
    (at0 0 0 0).acc = 0#4 ∧ (at0 1 0 0).acc.toNat = 2 ^ 0 ∧ (at0 8 0 0).acc.toNat = 2 ^ 3 ∧
      (0 < 1 ∧ (at0 3 0 0).acc.getLsbD 0 = true ∧ (at0 3 0 0).acc.getLsbD 1 = true) := by decide

theorem witness_DclAndLcr :
    State.reset.plat.cpu = .c4040 ∧ ∃ v, (at0 0xA 0 0).acc = 0xA#4 ∧ exec .dcl (at0 0xA 0 0) = .next v :=
  ⟨by decide, _, by decide, rfl⟩

theorem witness_HaltLogicAndIrBank :
    (irBanks 1#1).plat.cpu = .c4040 ∧ (on4004 (irBanks 1#1)).plat.cpu = .c4004 ∧ 8 ≤ (8#4).toNat ∧ ¬ 8 ≤ (7#4).toNat := by decide

theorem witness_InterruptDetection :
    (∃ u, beginStep ((at0 0 0 0).withFetchWord 8 0x0C) = .run .ein u ∧ u.plat.cpu = .c4040 ∧ u.inService = false) ∧
    (∃ u, beginStep ((at0 0 0 0).withFetchWord 8 0x0D) = .run .din u ∧ u.plat.cpu = .c4040) ∧
    (atBoundary true false false true).ie = true ∧ interruptRecognised (atBoundary true false false true) = true ∧
    (atBoundary false false false true).ie = false ∧ nextIs (step (atBoundary false false false true)) (fun t => !t.ie) = true ∧
    nextIs (step { (at0 0 0 0).withFetchWord 8 0x0C with ie := false }) (fun t => t.ie) = true :=
  ⟨⟨_, rfl, rfl, rfl⟩, ⟨_, rfl, rfl⟩, by decide, by decide, by decide, by decide, by decide⟩

/-- R182: EIN at 0 with a request in the step after: that step enters the interrupt, with the address after EIN saved. -/
theorem test_ein_then_request :
    nextIs (run 2 { (at0 0 0 0).withFetchWord 8 0x0C with inputs := [inputsOf 0#1 false 0#4, inputsOf 0#1 true 0#4] })
      (fun t => t.pc == 3#12 && t.stack.levels == [1#12] && t.inService) = true := by decide

theorem witness_RomBankSwitchDelay :
    State.reset.plat.cpu = .c4040 ∧ (0 < 1 ∧ 1 ≤ State.reset.plat.romBankDelay) ∧ (0 < 2 ∧ 2 ≤ State.reset.plat.romBankDelay) ∧
      State.reset.plat.romBankDelay < 3 := by decide

/-- On a platform where every page is read/write, whatever progRamAddr answers is program RAM. -/
theorem onProgRam_isProgRam (s : State) (by4289 : Bool) (w : Bit × Addr) :
    isProgRam (onProgRam s by4289).plat w.1 w.2 = true := by
  have h : ∀ (b : Bit) (p : Nibble), allPages.contains (b, p) = true := by decide
  exact h w.1 (pageOf w.2)

/-- On such a platform there is a word for WPM. -/
theorem onProgRam_some (s : State) (by4289 : Bool) : ∃ w, progRamWord (onProgRam s by4289) = some w := by
  have h : (onProgRam s by4289).plat.progRamPages = (0#1, 0#4) :: allPages.tail := rfl
  unfold progRamWord
  rw [h]
  simp only [onProgRam_isProgRam, if_true]
  exact ⟨_, rfl⟩

/-- Under 4289s there is a word for RPM too. -/
theorem onProgRam_rpm (s : State) : ∃ w, rpmWord (onProgRam s true) = some w := by
  have h : ∀ (b : Bit) (p : Nibble), allPages.contains (b, p) = true := by decide
  obtain ⟨w, hw⟩ := onProgRam_some s true
  unfold rpmWord
  rw [hw]
  exact ⟨w, if_pos (h w.1 (pageOf w.2))⟩

theorem witness_WpmWritesOneHalf :
    progRamWord State.reset = none ∧ ∃ w d, progRamWord (onProgRam State.reset false) = some w ∧
      progWord (onProgRam State.reset false) w.1 w.2 .fetch1Upper .fetch1Lower = some d := by
  obtain ⟨w, h⟩ := onProgRam_some State.reset false
  have hd : ∃ d, progWord (onProgRam State.reset false) w.1 w.2 .fetch1Upper .fetch1Lower = some d := by
    unfold progWord
    rw [onProgRam_isProgRam]
    exact ⟨_, rfl⟩
  obtain ⟨d, hd⟩ := hd
  exact ⟨rfl, w, d, h, hd⟩

/-- The last two are program RAM that a 4008/4009 controls: WPM writes it, RPM does not read it. -/
theorem witness_RpmReadsBack :
    (∃ (s : State) (w : Bit × Addr), s.plat.cpu = .c4040 ∧ rpmWord s = some w ∧
      readCell s.mem.pram (halfKey w.1 w.2 s.halfSel) = some 7#4) ∧
    (onProgRam State.reset false).plat.pages4289 = [] ∧ (∃ w, progRamWord (onProgRam State.reset false) = some w) ∧
      rpmWord (onProgRam State.reset false) = none := by
  obtain ⟨w, h⟩ := onProgRam_rpm State.reset
  obtain ⟨v, hv⟩ := onProgRam_some State.reset false
  refine ⟨⟨{ onProgRam State.reset true with mem := { Memory.empty with pram := [(halfKey w.1 w.2 .first, 7#4)] } }, w, rfl, h,
    if_pos rfl⟩, rfl, ⟨v, hv⟩, ?_⟩
  unfold rpmWord
  rw [hv]
  rfl

theorem witness_Only4040StopsOn4004 : (on4004 State.reset).plat.cpu = .c4004 ∧ Instr.only4040 .hlt = true ∧ Instr.only4040 .rpm = true := by
  decide

/-- A 4265 in mode 12 in a bank that holds 4002s too. -/
def sharedBank : State :=
  { onBanks State.reset { BankMap.allRam with chip2 := .dev4265 } with
    io := Vector.replicate 16 { Io4265.reset false with mode := some 12, enabled := true } }

theorem witness_SrcSendsAddress :
    targetOf sharedBank 0#3 0x00#8 = .clash ∧ targetOf State.reset 0#3 0x00#8 ≠ .clash ∧
    targetOf (on4269 State.reset none []) 0#3 0x40#8 = .dev4269 ∧ targetOf (on4265 State.reset (some 12) true) 0#3 0x3B#8 = .dev4265 0#1 := by
  decide

theorem witness_WhoAnswers :
    (look (w := 3) State.reset.plat.banks 0#3).chip2 ≠ .dev4265 ∧ (look (w := 3) State.reset.plat.banks 0#3).chip3 ≠ .dev4265 ∧
    answersWholeBank (ioAt (on4265 State.reset (some 11) true) 0#3 0#1) = false ∧
    ([0x3F#8, 0x7F#8, 0xBF#8, 0xC0#8] : List Byte).map (fun a => a.extractLsb' 6 2) = [0, 1, 2, 3] ∧
    (look (w := 3) (on4265 State.reset (some 13) true).plat.banks 7#3 =
        { chip0Ram := false, chip1 := .empty, chip2 := .dev4265, chip3 := .empty } ∧
      (ioAt (on4265 State.reset (some 13) true) 7#3 0#1).mode = some 13) ∧
    (look (w := 3) (onBanks (on4265 State.reset (some 12) true)
        { chip0Ram := false, chip1 := .empty, chip2 := .empty, chip3 := .dev4265 }).plat.banks 0#3 =
        { chip0Ram := false, chip1 := .empty, chip2 := .empty, chip3 := .dev4265 } ∧
      (ioAt (on4265 State.reset (some 12) true) 0#3 1#1).mode = some 12) ∧
    (Selected (afterSrc sharedBank 0x00#8) 0x00#8 .clash ∧ (look (w := 3) sharedBank.plat.banks 0#3).chip2 = .dev4265 ∧
      (ioAt sharedBank 0#3 0#1).mode = some 12 ∧ (look (w := 3) sharedBank.plat.banks 0#3).chip0Ram = true) ∧
    ((look (w := 3) (onBanks sharedBank { BankMap.allRam with chip3 := .dev4265 }).plat.banks 0#3).chip3 = .dev4265 ∧
      (ioAt sharedBank 0#3 1#1).mode = some 12) := by decide

theorem witness_IoBeforeSrcStops :
    selNow State.reset = none ∧ look (w := 1) State.reset.romSel (romBank State.reset) = none ∧
    (popStack (withLevels State.reset [1]) ≠ none ∧ (withLevels State.reset [1]).srcReg = none) ∧ popStack State.reset = none := by decide

theorem witness_WritesToRamChip : Selected filled 0x40#8 .ram4002 ∧ Selected (afterSrc State.reset 0xFF#8) 0xFF#8 .ram4002 := by decide

theorem witness_ReadsFromRamChip :
    Selected filled 0x40#8 .ram4002 ∧ readCell filled.mem.ramch (ramchKey 0#3 0x40#8) = some 6#4 ∧
    ([0#2, 1#2, 2#2, 3#2].map fun k => readCell filled.mem.ramst (ramstKey 0#3 0x40#8 k)) = [some 8#4, some 9#4, some 10#4, some 11#4] := by
  decide

theorem witness_EmptyChipAddress : Selected (afterSrc (on4265 State.reset none false) 0x00#8) 0x00#8 .empty := by decide

theorem witness_RomPorts :
    look (w := 1) filled.romSel (romBank filled) = some 0x40#8 ∧ romPortPresent filled.plat 0#1 4#4 = true ∧
    romPortPresent { filled.plat with absentRomPorts := [(0#1, 4#4)] } 0#1 4#4 = false := by decide

theorem witness_OtherRamBanksUntouched :
    (∃ t, exec .wrm filled = .next t) ∧ (∃ t, exec .wr0 (on4269 State.reset none []) = .next t) ∧ 1#3 ≠ bankOf filled.cr ∧
      7#3 ≠ bankOf filled.cr := ⟨⟨_, rfl⟩, ⟨_, rfl⟩, by decide, by decide⟩

theorem witness_DisplayWithoutAdvance :
    Selected (on4269 State.reset (some (.gas20, .notUsed)) []) 0x40#8 .dev4269 ∧
    (kdNow (on4269 State.reset (some (.gas20, .notUsed)) [])).modes = some (.gas20, .notUsed) := by decide

/-- The pointer of the selected 4269 put at a place. -/
def pointAt (o : OutMode) (d : Side) (n : Nibble) : State :=
  { on4269 State.reset (some (o, .contact)) [] with
    kd := Vector.replicate 8 { Kd4269.reset with modes := some (o, .contact), ptr := { side := d, n := n } } }

theorem witness_DisplayWithAdvance :
    ([(.individual, .a, 14#4), (.individual, .b, 0#4), (.gas20, .a, 15#4), (.gas16, .b, 14#4)] : List (OutMode × Side × Nibble)).all
      (fun x => decide (Selected (pointAt x.1 x.2.1 x.2.2) 0x40#8 .dev4269 ∧
        (kdNow (pointAt x.1 x.2.1 x.2.2)).modes = some (x.1, .contact) ∧
        (kdNow (pointAt x.1 x.2.1 x.2.2)).ptr = { side := x.2.1, n := x.2.2 } ∧
        (x.1 = .individual → x.2.2 ≠ lastNumber (displayLength (kdNow (pointAt x.1 x.2.1 x.2.2)) x.2.1)))) = true := by decide

theorem witness_KeyboardDisplayModes :
    Selected (on4269 (at0 0b0110 0 0) none []) 0x40#8 .dev4269 ∧
    Selected (on4269 (at0 0b0110 0 0) (some (.gas20, .encoded)) []) 0x40#8 .dev4269 := by decide

theorem witness_DisplayClears :
    Selected (on4269 (at0 8 0 0) (some (.individual, .sensor)) []) 0x40#8 .dev4269 ∧
    (kdNow (on4269 (at0 8 0 0) (some (.individual, .sensor)) [])).modes = some (.individual, .sensor) ∧
    (kdNow (on4269 (at0 8 0 0) (some (.gas18, .sensor)) [])).modes = some (.gas18, .sensor) := by decide

theorem witness_KeyboardFifo :
    Selected (on4269 State.reset (some (.individual, .contact)) []) 0x40#8 .dev4269 ∧
    (kdNow (on4269 State.reset (some (.individual, .contact)) [])).fifo = [] ∧
    (kdNow (on4269 State.reset (some (.individual, .encoded)) [⟨2#4, 0xC#4⟩])).modes = some (.individual, .encoded) ∧
    (kdNow (on4269 State.reset (some (.individual, .encoded)) [⟨2#4, 0xC#4⟩])).fifo = ⟨2#4, 0xC#4⟩ :: [] := by decide

theorem witness_SensorGroups :
    Selected (on4269 State.reset (some (.individual, .sensor)) []) 0x40#8 .dev4269 ∧
    (kdNow (on4269 State.reset (some (.individual, .sensor)) [])).modes = some (.individual, .sensor) := by decide

theorem witness_SrcOnKeyboardDisplay :
    Kd4269.reset.modes = none ∧
    ({ Kd4269.reset with modes := some (.individual, .sensor) } : Kd4269).modes = some (.individual, .sensor) ∧
    ({ Kd4269.reset with modes := some (.gas16, .notUsed) } : Kd4269).modes = some (.gas16, .notUsed) ∧
    (3#4).toNat < 4 ∧ 7 < (8#4).toNat := by decide

theorem witness_KeyboardDisplayStops :
    Selected (on4269 State.reset none []) 0x40#8 .dev4269 ∧ (kdNow (on4269 State.reset none [])).modes = none ∧
    (kdNow (on4269 State.reset (some (.gas16, .sensor)) [])).modes = some (.gas16, .sensor) ∧
    (kdNow (on4269 State.reset (some (.gas16, .notUsed)) [])).modes = some (.gas16, .notUsed) ∧ WriteOp.wrm ≠ .wr0 := by decide

theorem witness_IoDeviceMode :
    Selected (on4265 (at0 13 0 0) none false) 0x80#8 (.dev4265 0#1) ∧ (at0 13 0 0).acc.toNat < 14 ∧
    (ioAt (on4265 (at0 14 0 0) (some 0) true) 0#3 0#1).mode ≠ none ∧ (at0 14 0 0).acc = 14#4 ∧ (at0 15 0 0).acc = 15#4 ∧
    (ioAt (on4265 (at0 14 0 0) none false) 0#3 0#1).mode = none ∧ 14 ≤ (at0 14 0 0).acc.toNat ∧ WriteOp.wrm ≠ .wmp := by decide

theorem witness_IoDeviceWrites :
    ([0, 1, 3, 4, 11, 12, 13] : List (Fin 14)).all (fun m =>
      decide (Selected (on4265 State.reset (some m) true) 0x80#8 (.dev4265 0#1)) &&
        decide ((ioAt (on4265 State.reset (some m) true) 0#3 0#1).mode = some m) &&
        (ioAt (on4265 State.reset (some m) true) 0#3 0#1).enabled) = true := by decide

theorem witness_IoDeviceBitSet :
    (Port.y = .y ∨ Port.y = .z) ∧
    (Selected (on4265 State.reset (some 12) true) 0x80#8 (.dev4265 0#1) ∧ portDirection 12 .y = .output) ∧
    (Selected (on4265 State.reset (some 4) false) 0x80#8 (.dev4265 0#1) ∧
      (ioAt (on4265 State.reset (some 4) false) 0#3 0#1).enabled = false) := by decide

theorem witness_IoDeviceReads :
    ([0, 1, 3, 4, 11, 12, 13] : List (Fin 14)).all (fun m =>
      decide (Selected (on4265 State.reset (some m) false) 0x80#8 (.dev4265 0#1)) &&
        decide ((ioAt (on4265 State.reset (some m) true) 0#3 0#1).mode = some m) &&
        !(ioAt (on4265 State.reset (some m) false) 0#3 0#1).enabled) = true := by decide

theorem witness_SrcOnIoDevice :
    ({ Io4265.reset false with mode := some 11 } : Io4265).mode = some 11 ∧ (Io4265.reset false).mode = none ∧
    ({ Io4265.reset false with mode := some 12, enabled := true } : Io4265).enabled = true ∧
    (12 ≤ (12 : Fin 14).val ∧ ({ Io4265.reset false with mode := some 12 } : Io4265).enabled = false) := by decide

theorem witness_InterruptIsEntered :
    let s := atBoundary true false true true
    environmentMoves s = s ∧ s.plat.cpu = .c4040 ∧ intIn s = true ∧ s.plat.stackWrap = false ∧
    (withLevels s [1, 2, 3, 4, 5, 6]).stack.levels.length < s.plat.stackDepth ∧
    s.plat.stackDepth ≤ (withLevels s [1, 2, 3, 4, 5, 6, 7]).stack.levels.length ∧
    ([0, 3]).all (fun sp =>
      intIn (onRing s sp) && (onRing s sp).ie && !(onRing s sp).inService && (onRing s sp).plat.stackWrap &&
        (onRing s sp).stack.ar.length == (onRing s sp).plat.stackDepth + 1 &&
        decide ((onRing s sp).stack.sp ≤ (onRing s sp).plat.stackDepth)) = true := by decide

theorem witness_HaltWaits :
    let s := atBoundary false false true true
    environmentMoves s = s ∧ s.halted = true ∧ interruptRecognised s = false ∧ s.plat.haltExitWhenDisabled = false ∧
    interruptRecognised { s with plat := { s.plat with haltExitWhenDisabled := true } } = false := by decide

/-- In a routine: one return address, and the address of the last SRC. -/
def inRoutine : State := { withLevels State.reset [0x123#12] with srcReg := some 0x4A#8, inService := true }

theorem witness_BbsEndsInterrupt :
    (inRoutine.plat.cpu = .c4040 ∧ inRoutine.plat.stackWrap = false ∧ inRoutine.stack.levels = [] ++ [0x123#12] ∧
      inRoutine.stack.levels ≠ [] ∧ inRoutine.srcReg = some 0x4A#8 ∧ targetOf inRoutine 0#3 0x4A#8 = .ram4002) ∧
    ((onRing inRoutine 3).plat.stackWrap = true ∧ (onRing inRoutine 0).stack.ar.length = (onRing inRoutine 0).plat.stackDepth + 1 ∧
      (onRing inRoutine 3).stack.sp ≤ (onRing inRoutine 3).plat.stackDepth) ∧
    (targetOf (on4269 inRoutine none []) 0#3 0x40#8 = .dev4269 ∧ targetOf (on4265 inRoutine (some 12) true) 0#3 0x80#8 = .dev4265 0#1 ∧
      targetOf sharedBank 0#3 0x4A#8 = .clash) ∧
    ∃ t, State.reset.Inv ∧ State.reset.plat.cpu = .c4040 ∧ 0 < State.reset.plat.stackDepth ∧ interruptEntry State.reset = .next t ∧
      (t.setSrcReg (some 0x4A#8)).stack = t.stack ∧ (t.setSrcReg (some 0x4A#8)).plat = t.plat ∧
      targetOf (t.setSrcReg (some 0x4A#8)) 0#3 0x4A#8 ≠ .clash :=
  ⟨by decide, by decide, by decide, _, witness_Inv, rfl, by decide, rfl, rfl, rfl, by decide⟩

theorem witness_NoRecognition :
    (on4004 State.reset).plat.cpu = .c4004 ∧ State.reset.ie = false ∧ (atBoundary true true false true).inService = true ∧
    intIn (atBoundary true false false false) = false ∧ State.reset.plat.intWiring = none ∧
    (look (w := 3) (on4269 State.reset none []).plat.banks 7#3).chip1 = .dev4269 := by decide

theorem witness_WhoWritesWhat :
    (∃ t, step (State.reset.withFetchWord 8 0x00) = .next t) ∧ (∃ t, exec (.xch 9#4) (at0 1 1 0) = .next t) ∧
      ∃ t, exec .wrm filled = .next t := ⟨⟨_, rfl⟩, ⟨_, rfl⟩, ⟨_, rfl⟩⟩

theorem witness_InvariantKept : ∃ s t : State, s.Inv ∧ step s = .next t := by
  refine ⟨State.reset.withFetchWord 8 0x00, _, ?_, rfl⟩
  constructor <;> decide

end Sys2Proof.Tests
end

/-! PROOFS of the family 10_state: which pieces of state an instruction can change, the register in view, the state after reset. -/

/-! ### Tables and single instructions -/

namespace Sys2Proof.Proofs

section
open Sys2Proof.Machine

@[simp] theorem look_replicate {α : Type} {w : Nat} (x : α) (i : BitVec w) : look (Vector.replicate (2 ^ w) x) i = x := by
  simp [look]

@[simp] theorem put_look_self {α : Type} {w : Nat} (v : Vector α (2 ^ w)) (i : BitVec w) : put v i (look v i) = v := by
  simp [put, look]

/-- Storing back the 4269 that a bank already has changes nothing. -/
@[simp] theorem setKdAt_self (s : State) (b : BankNo) : setKdAt s b (look (w := 3) s.kd b) = s :=
  congrArg s.setKd (put_look_self (w := 3) s.kd b)

theorem is4040_iff {s : State} : is4040 s = true ↔ s.plat.cpu = .c4040 := by simp [is4040]

/-- On a 4040 a 4040-only effect is the effect itself (R97). -/
theorem on4040_of_c4040 {s : State} (h : s.plat.cpu = .c4040) (w : Byte) (o : Host.Outcome State Fault Refusal) :
    on4040 w s o = o := if_pos (is4040_iff.mpr h)

theorem irBank_of_c4040 {s : State} (h : s.plat.cpu = .c4040) : irBank s = s.sb := if_pos (is4040_iff.mpr h)

theorem irBank_of_c4004 {s : State} (h : s.plat.cpu = .c4004) : irBank s = 0#1 := by simp [irBank, is4040, h]

/-- The register in view is the one of the IR bank in force (R29). -/
theorem reg_eq_regUnder (s : State) (r : Nibble) : reg s r = regUnder s (irBank s) r := rfl

/-- Registers 8 to 15 exist once: no IR bank matters to them (R29). -/
theorem regUnder_high {r : Nibble} (h : 8 ≤ r.toNat) (s : State) (b c : Bit) : regUnder s b r = regUnder s c r := by
  have hr : r.getLsbD 3 = true := by revert r; decide
  simp only [regUnder, hr, if_true]

end

/-! ### Parts of the state, and what a change leaves alone -/

section
open Sys2Proof.Machine

/-- The parts of the state that R47's table speaks of. The program counter is not one of them: every instruction may change it. -/
inductive Part where
  | plat | acc | cy | ir | stack | cr | bank | sb | ie | inService | halted | srcReg | sel | romSel | halfSel
  | rom | pram | ramch | ramst | ramport | romport | kd | io | inputs | clock

/-- The part has one value in both states. -/
def Part.Same (s t : State) : Part → Prop
  | .plat => t.plat = s.plat
  | .acc => t.acc = s.acc
  | .cy => t.cy = s.cy
  | .ir => t.ir = s.ir
  | .stack => t.stack = s.stack
  | .cr => t.cr = s.cr
  | .bank => t.bank = s.bank
  | .sb => t.sb = s.sb
  | .ie => t.ie = s.ie
  | .inService => t.inService = s.inService
  | .halted => t.halted = s.halted
  | .srcReg => t.srcReg = s.srcReg
  | .sel => t.sel = s.sel
  | .romSel => t.romSel = s.romSel
  | .halfSel => t.halfSel = s.halfSel
  | .rom => t.mem.rom = s.mem.rom
  | .pram => t.mem.pram = s.mem.pram
  | .ramch => t.mem.ramch = s.mem.ramch
  | .ramst => t.mem.ramst = s.mem.ramst
  | .ramport => t.mem.ramport = s.mem.ramport
  | .romport => t.mem.romport = s.mem.romport
  | .kd => t.kd = s.kd
  | .io => t.io = s.io
  | .inputs => t.inputs = s.inputs
  | .clock => t.clock = s.clock

/-- From `s` to `t` no part outside the list changes. -/
def ChangesOnly (ps : List Part) (s t : State) : Prop := ∀ p, p ∉ ps → p.Same s t

/-- The next state of an outcome, if it has one, differs from `s` in the listed parts alone. -/
def NextChangesOnly (ps : List Part) (s : State) (o : Host.Outcome State Fault Refusal) : Prop :=
  ∀ t, o = .next t → ChangesOnly ps s t

/-- The parts that the next state of an instruction may differ in. -/
def mayChange : Instr → List Part
  | .nop | .jcn _ _ | .jin _ | .jun _ => []
  | .fim _ _ | .fin _ | .inc _ | .isz _ _ => [.ir]
  | .jms _ => [.stack]
  | .ld _ | .ldm _ | .cma | .kbp | .lcr | .or4 | .or5 | .an6 | .an7 => [.acc]
  | .sbm | .adm | .add _ | .sub _ | .clb | .iac | .ral | .rar | .tcc | .dac | .tcs | .daa => [.acc, .cy]
  | .xch _ => [.ir, .acc]
  | .bbl _ => [.stack, .acc]
  | .clc | .cmc | .stc => [.cy]
  | .dcl => [.cr]
  | .hlt => [.halted]
  | .bbs => [.stack, .inService, .sel, .romSel, .kd, .io]
  | .db0 | .db1 => [.bank]
  | .sb0 | .sb1 => [.sb]
  | .ein | .din => [.ie]
  | .rpm => [.acc, .halfSel]
  | .src _ => [.srcReg, .sel, .romSel, .kd, .io]
  | .wrm => [.ramch, .kd, .io]
  | .wmp => [.ramport, .kd, .io]
  | .wr0 | .wr1 | .wr2 | .wr3 => [.ramst, .kd, .io]
  | .wrr => [.romport]
  | .wpm => [.pram, .halfSel]
  | .rdm | .rd2 => [.acc, .kd]
  | .rdr | .rd0 | .rd1 | .rd3 => [.acc]

/-- What a step may change before its instruction, or without one: the 4269s by the environment, the ROM bank by the fetch, and
what an interrupt entry or a halt changes (R281, R286, R288). -/
def mayChangeBefore : List Part := [.kd, .bank, .stack, .inService, .halted, .ie]

/-- A part that differs is on the list. -/
theorem ChangesOnly.mem {ps : List Part} {s t : State} (h : ChangesOnly ps s t) {p : Part} (hp : ¬ p.Same s t) : p ∈ ps :=
  not_imp_comm.mp (h p) hp

theorem NextChangesOnly.changesOnly {ps : List Part} {s t : State} {o : Host.Outcome State Fault Refusal}
    (h : NextChangesOnly ps s o) (ht : o = .next t) : ChangesOnly ps s t := h t ht

theorem ChangesOnly.refl (s : State) : ChangesOnly [] s s := fun p _ => by cases p <;> rfl

theorem ChangesOnly.mono {ps qs : List Part} {s t : State} (h : ChangesOnly ps s t)
    (hsub : ps ⊆ qs := by simp [mayChange, mayChangeBefore]) : ChangesOnly qs s t :=
  fun p hp => h p fun hps => hp (hsub hps)

theorem Part.Same.trans {s t u : State} {p : Part} (h : p.Same s t) (h' : p.Same t u) : p.Same s u := by
  cases p <;> exact Eq.trans h' h

theorem ChangesOnly.trans {ps qs : List Part} {s t u : State} (h : ChangesOnly ps s t) (h' : ChangesOnly qs t u) :
    ChangesOnly (ps ++ qs) s u := fun p hp =>
  have ⟨hps, hqs⟩ := not_or.mp (mt List.mem_append.mpr hp)
  (h p hps).trans (h' p hqs)

/-! One rule for each operation on the state: the parts that it may change. -/

section Rules
variable (s : State)

theorem setAcc_changesOnly (v : Nibble) : ChangesOnly [.acc] s (s.setAcc v) := fun p hp => by
  cases p with
  | acc => simp at hp
  | _ => rfl

theorem setCy_changesOnly (v : Bit) : ChangesOnly [.cy] s (s.setCy v) := fun p hp => by
  cases p with
  | cy => simp at hp
  | _ => rfl

theorem setIr_changesOnly (v : RegFile) : ChangesOnly [.ir] s (s.setIr v) := fun p hp => by
  cases p with
  | ir => simp at hp
  | _ => rfl

theorem setPc_changesOnly (v : Addr) : ChangesOnly [] s (s.setPc v) := fun p _ => by cases p <;> rfl

theorem setStack_changesOnly (v : Stack) : ChangesOnly [.stack] s (s.setStack v) := fun p hp => by
  cases p with
  | stack => simp at hp
  | _ => rfl

theorem setCr_changesOnly (v : BankNo) : ChangesOnly [.cr] s (s.setCr v) := fun p hp => by
  cases p with
  | cr => simp at hp
  | _ => rfl

theorem setBank_changesOnly (v : RomBank) : ChangesOnly [.bank] s (s.setBank v) := fun p hp => by
  cases p with
  | bank => simp at hp
  | _ => rfl

theorem setSb_changesOnly (v : Bit) : ChangesOnly [.sb] s (s.setSb v) := fun p hp => by
  cases p with
  | sb => simp at hp
  | _ => rfl

theorem setIe_changesOnly (v : Bool) : ChangesOnly [.ie] s (s.setIe v) := fun p hp => by
  cases p with
  | ie => simp at hp
  | _ => rfl

theorem setInService_changesOnly (v : Bool) : ChangesOnly [.inService] s (s.setInService v) := fun p hp => by
  cases p with
  | inService => simp at hp
  | _ => rfl

theorem setHalted_changesOnly (v : Bool) : ChangesOnly [.halted] s (s.setHalted v) := fun p hp => by
  cases p with
  | halted => simp at hp
  | _ => rfl

theorem setSrcReg_changesOnly (v : Option Byte) : ChangesOnly [.srcReg] s (s.setSrcReg v) := fun p hp => by
  cases p with
  | srcReg => simp at hp
  | _ => rfl

theorem setSel_changesOnly (v : Vector (Option Byte) 8) : ChangesOnly [.sel] s (s.setSel v) := fun p hp => by
  cases p with
  | sel => simp at hp
  | _ => rfl

theorem setRomSel_changesOnly (v : Vector (Option Byte) 2) : ChangesOnly [.romSel] s (s.setRomSel v) := fun p hp => by
  cases p with
  | romSel => simp at hp
  | _ => rfl

theorem setHalfSel_changesOnly (v : Half) : ChangesOnly [.halfSel] s (s.setHalfSel v) := fun p hp => by
  cases p with
  | halfSel => simp at hp
  | _ => rfl

theorem setKd_changesOnly (v : Vector Kd4269 8) : ChangesOnly [.kd] s (s.setKd v) := fun p hp => by
  cases p with
  | kd => simp at hp
  | _ => rfl

theorem setIo_changesOnly (v : Vector Io4265 16) : ChangesOnly [.io] s (s.setIo v) := fun p hp => by
  cases p with
  | io => simp at hp
  | _ => rfl

theorem setPram_changesOnly (l : List (Nat × Nibble)) :
    ChangesOnly [.pram] s (s.setMem { s.mem with pram := l }) := fun p hp => by
  cases p with
  | pram => simp at hp
  | _ => rfl

theorem setRomport_changesOnly (l : List (Nat × Nibble)) :
    ChangesOnly [.romport] s (s.setMem { s.mem with romport := l }) := fun p hp => by
  cases p with
  | romport => simp at hp
  | _ => rfl

/-- The memory of a 4002 that a write code goes to (R193, R194, R197, R198, R200, R201). -/
def cellPart : WriteOp → Part
  | .wrm => .ramch
  | .wmp => .ramport
  | .wr0 | .wr1 | .wr2 | .wr3 => .ramst

theorem ram4002Write_changesOnly (b : BankNo) (a : Byte) (op : WriteOp) (v : Nibble) :
    ChangesOnly [cellPart op] s (s.setMem (ram4002Write s.mem b a op v)) := fun p hp => by
  have hne : p ≠ cellPart op := by simpa using hp
  cases op with
  | wrm =>
    cases p with
    | ramch => exact absurd rfl hne
    | _ => rfl
  | wmp =>
    cases p with
    | ramport => exact absurd rfl hne
    | _ => rfl
  | wr0 | wr1 | wr2 | wr3 =>
    cases p with
    | ramst => exact absurd rfl hne
    | _ => rfl

theorem advance_changesOnly (n : Nat) : ChangesOnly [] s (advance n s) := setPc_changesOnly s _

theorem setAccCy_changesOnly (r : Nibble × Bit) : ChangesOnly [.acc, .cy] s (setAccCy s r) :=
  (setAcc_changesOnly s _).trans (setCy_changesOnly _ _)

theorem setReg_changesOnly (r v : Nibble) : ChangesOnly [.ir] s (setReg s r v) := setIr_changesOnly s _

theorem setPair_changesOnly (p : PairNo) (d : Byte) : ChangesOnly [.ir] s (setPair s p d) :=
  ((setReg_changesOnly s _ _).trans (setReg_changesOnly _ _ _)).mono

theorem selectRomBank_changesOnly (n : Bit) : ChangesOnly [.bank] s (selectRomBank s n) := setBank_changesOnly s _

theorem latchSelection_changesOnly (a : Byte) : ChangesOnly [.sel, .romSel] s (latchSelection s a) :=
  (setSel_changesOnly s _).trans (setRomSel_changesOnly _ _)

theorem keepSrc_changesOnly (a : Byte) : ChangesOnly [.srcReg] s (keepSrc s a) := by
  unfold keepSrc
  split
  · exact setSrcReg_changesOnly s _
  · exact (ChangesOnly.refl s).mono

theorem writeProgRam_changesOnly (v : Nibble) : ChangesOnly [.pram] s (writeProgRam s v) := by
  obtain e | ⟨w, -, e⟩ := writeProgRam_cases s v
  · exact e.symm ▸ (ChangesOnly.refl s).mono
  · exact e.symm ▸ setPram_changesOnly s _

theorem bankUpdate_changesOnly : ChangesOnly [.bank] s (bankUpdate s) := by
  obtain ⟨b, hb⟩ := bankUpdate_eq_setBank s
  exact hb.symm ▸ setBank_changesOnly s b

theorem environmentMoves_changesOnly : ChangesOnly [.kd] s (environmentMoves s) := by
  obtain ⟨k, hk⟩ := environmentMoves_eq_setKd s
  exact hk.symm ▸ setKd_changesOnly s k

theorem haltedStep_changesOnly : ChangesOnly [.halted] s (haltedStep s) := by
  unfold haltedStep
  split
  · exact setHalted_changesOnly s _
  · exact (ChangesOnly.refl s).mono

/-! The same for the operations that can stop. -/

theorem nextChangesOnly_next {ps qs : List Part} {s t : State} (h : ChangesOnly ps s t)
    (hsub : ps ⊆ qs := by simp [mayChange]) : NextChangesOnly qs s (.next t) := by
  rintro _ ⟨⟩
  exact h.mono hsub

theorem nextChangesOnly_on4040 {ps : List Part} {s : State} {o : Host.Outcome State Fault Refusal} (w : Byte)
    (h : NextChangesOnly ps s o) : NextChangesOnly ps s (on4040 w s o) :=
  fun t ht => h t (on4040_eq_next.mp ht).2

/-- Advancing the program counter at the end changes no part. -/
theorem nextChangesOnly_onNext_advance {ps : List Part} {s : State} {o : Host.Outcome State Fault Refusal} (n : Nat)
    (h : NextChangesOnly ps s o) : NextChangesOnly ps s (onNext o (advance n)) := fun t ht => by
  obtain ⟨u, hu, rfl⟩ := onNext_eq_next.mp ht
  exact ((h u hu).trans (advance_changesOnly u n)).mono

theorem sendSrc_changesOnly (a : Byte) : NextChangesOnly [.sel, .romSel, .kd, .io] s (sendSrc s a) := fun t ht => by
  have latched := latchSelection_changesOnly s a
  obtain rfl | rfl | ⟨high, rfl⟩ := sendSrc_eq_next ht
  · exact latched.mono
  · exact (latched.trans (setKd_changesOnly _ _)).mono
  · exact (latched.trans (setIo_changesOnly _ _)).mono

theorem returnFromInterrupt_changesOnly :
    NextChangesOnly [.stack, .inService, .sel, .romSel, .kd, .io] s (returnFromInterrupt s) := fun t ht => by
  obtain ⟨a, st, r, u, -, -, hu, rfl⟩ := returnFromInterrupt_eq_next ht
  have sent := (sendSrc_changesOnly s r).changesOnly hu
  have popped := (sent.trans (setStack_changesOnly u st)).trans (setPc_changesOnly _ a)
  exact (popped.trans (setInService_changesOnly _ _)).mono

theorem interruptEntry_changesOnly : NextChangesOnly [.stack, .inService, .halted, .ie] s (interruptEntry s) := fun t ht => by
  obtain ⟨st, -, rfl⟩ := interruptEntry_eq_next ht
  have called := (setStack_changesOnly s st).trans (setPc_changesOnly _ Config.intVector)
  have entered := (called.trans (setInService_changesOnly _ true)).trans (setHalted_changesOnly _ false)
  split
  · exact (entered.trans (setIe_changesOnly _ _)).mono
  · exact entered.mono

theorem ramWrite_changesOnly (op : WriteOp) : NextChangesOnly [cellPart op, .kd, .io] s (ramWrite op s) := fun t ht => by
  obtain ⟨a, -, ⟨-, rfl⟩ | ⟨-, rfl⟩ | ⟨k, -, -, rfl⟩ | ⟨high, d, -, -, rfl⟩⟩ := ramWrite_eq_next ht
  · exact (ChangesOnly.refl _).mono
  · exact (ram4002Write_changesOnly s _ _ op _).mono
  · exact (setKd_changesOnly s _).mono
  · exact (setIo_changesOnly s _).mono

/-- Of the read codes only RDM moves a 4269's pointer and only RD2 takes from its FIFO (R234, R239). -/
theorem kdRead_keeps_device {op : ReadOp} {d v : Nibble} {k k' : Kd4269} (h : kdRead op d k = some (v, k')) :
    (op = .rdm ∨ op = .rd2) ∨ k' = k := by
  cases op with
  | rdm => exact .inl (.inl rfl)
  | rd2 => exact .inl (.inr rfl)
  | sbm | adm => simp [kdRead] at h
  | rd3 =>
    simp only [kdRead, Option.map_eq_some_iff, Prod.mk.injEq] at h
    obtain ⟨m, -, -, hk⟩ := h
    exact .inr hk.symm
  | rd0 =>
    simp only [kdRead, Option.bind_eq_some_iff] at h
    obtain ⟨m, -, h⟩ := h
    cases hm : m.2 <;> simp_all [kdReadStatus]
  | rd1 =>
    simp only [kdRead, Option.bind_eq_some_iff] at h
    obtain ⟨m, -, h⟩ := h
    cases hm : m.2 <;> cases hf : k.fifo <;> simp_all [kdReadFirst]

/-- A read changes what `f` changes, and RDM and RD2 a 4269 too. -/
theorem ramRead_changesOnly {ps : List Part} (op : ReadOp) (f : Nibble → State → State)
    (hf : ∀ v u, ChangesOnly ps u (f v u)) (hk : op = .rdm ∨ op = .rd2 → .kd ∈ ps) :
    NextChangesOnly ps s (ramRead op s f) := fun t ht => by
  obtain ⟨a, -, ⟨-, rfl⟩ | ⟨-, rfl⟩ | ⟨v, k, -, hread, rfl⟩ | ⟨high, v, -, -, rfl⟩⟩ := ramRead_eq_next ht
  · exact hf _ s
  · exact hf _ s
  · obtain h | rfl := kdRead_keeps_device hread
    · exact ((setKd_changesOnly s _).trans (hf v _)).mono (by simp [hk h])
    · exact (setKdAt_self s _).symm ▸ hf v s
  · exact hf _ s

theorem romWrite_changesOnly : NextChangesOnly [.romport] s (romWrite s) := fun t ht => by
  obtain ⟨n, -, ⟨-, rfl⟩ | ⟨-, rfl⟩⟩ := romWrite_eq_next ht
  · exact setRomport_changesOnly s _
  · exact (ChangesOnly.refl _).mono

theorem romRead_changesOnly : NextChangesOnly [.acc] s (romRead s) := fun t ht => by
  obtain ⟨n, -, rfl⟩ := romRead_eq_next ht
  exact setAcc_changesOnly s _

end Rules

/-! ### What each instruction may change (R47), and what a step may change before its instruction -/

section Arms
variable (s : State)

theorem execJms_changesOnly (a : Addr) : NextChangesOnly [.stack] s (execJms a s) := by
  unfold execJms
  split
  · rintro _ ⟨⟩
  · exact nextChangesOnly_next ((setStack_changesOnly s _).trans (setPc_changesOnly _ _))

theorem execBbl_changesOnly (d : Nibble) : NextChangesOnly [.stack, .acc] s (execBbl d s) := by
  unfold execBbl
  split
  · rintro _ ⟨⟩
  · exact nextChangesOnly_next
      (((setStack_changesOnly s _).trans (setPc_changesOnly _ _)).trans (setAcc_changesOnly _ _))

theorem execFin_changesOnly (p : PairNo) : NextChangesOnly [.ir] s (execFin p s) := by
  simp only [execFin]
  split
  · rintro _ ⟨⟩
  · exact nextChangesOnly_next ((setPair_changesOnly s _ _).trans (advance_changesOnly _ _))

theorem execIsz_changesOnly (r : Nibble) (a : Byte) : NextChangesOnly [.ir] s (execIsz r a s) := by
  have incremented := setReg_changesOnly s r (reg s r + 1#4)
  refine nextChangesOnly_next ?_ (List.Subset.refl _)
  split
  · exact incremented.trans (setPc_changesOnly _ _)
  · exact incremented.trans (advance_changesOnly _ _)

theorem execJcn_changesOnly (c : Nibble) (a : Byte) : NextChangesOnly [] s (execJcn c a s) := by
  refine nextChangesOnly_next ?_ (List.Subset.refl _)
  split
  · exact setPc_changesOnly _ _
  · exact advance_changesOnly _ _

theorem execSrc_changesOnly (p : PairNo) : NextChangesOnly [.srcReg, .sel, .romSel, .kd, .io] s (execSrc p s) :=
  nextChangesOnly_onNext_advance 1 fun _ ht =>
    (keepSrc_changesOnly s (pair s p)).trans ((sendSrc_changesOnly _ (pair s p)).changesOnly ht)

/-- A write code changes its cell of a 4002, a 4269 or a 4265 (R191). -/
theorem execWrite_changesOnly (op : WriteOp) :
    NextChangesOnly [cellPart op, .kd, .io] s (onNext (ramWrite op s) (advance 1)) :=
  nextChangesOnly_onNext_advance 1 (ramWrite_changesOnly s op)

/-- A read code whose value goes to the accumulator changes that, and RDM and RD2 a 4269 (R191, R234, R239). -/
theorem execRead_changesOnly {ps : List Part} (op : ReadOp) (ha : .acc ∈ ps) (hk : op = .rdm ∨ op = .rd2 → .kd ∈ ps) :
    NextChangesOnly ps s (ramRead op s fun m t => advance 1 (t.setAcc m)) :=
  ramRead_changesOnly s op _ (fun _ u => ((setAcc_changesOnly u _).trans (advance_changesOnly _ _)).mono (by simp [ha])) hk

/-- SBM and ADM: the accumulator and the carry (R202, R205). -/
theorem execReadArith_changesOnly (op : ReadOp) (g : Nibble → Nibble × Bit) (h : ¬ (op = .rdm ∨ op = .rd2)) :
    NextChangesOnly [.acc, .cy] s (ramRead op s fun m t => advance 1 (setAccCy t (g m))) :=
  ramRead_changesOnly s op _ (fun _ u => (setAccCy_changesOnly u _).trans (advance_changesOnly _ _)) (absurd · h)

end Arms

/-- R47: an instruction changes no part outside its row of the table. -/
theorem exec_changesOnly (i : Instr) (s : State) : NextChangesOnly (mayChange i) s (exec i s) := by
  cases i with
  | nop => exact nextChangesOnly_next (advance_changesOnly s 1)
  | jcn c a => exact execJcn_changesOnly s c a
  | jin | jun => exact nextChangesOnly_next (setPc_changesOnly s _)
  | fim => exact nextChangesOnly_next ((setPair_changesOnly s _ _).trans (advance_changesOnly _ _))
  | fin p => exact execFin_changesOnly s p
  | inc => exact nextChangesOnly_next ((setReg_changesOnly s _ _).trans (advance_changesOnly _ _))
  | isz r a => exact execIsz_changesOnly s r a
  | jms a => exact execJms_changesOnly s a
  | bbl d => exact execBbl_changesOnly s d
  | xch =>
    exact nextChangesOnly_next (((setReg_changesOnly s _ _).trans (setAcc_changesOnly _ _)).trans (advance_changesOnly _ _))
  | ld | ldm | cma | kbp => exact nextChangesOnly_next ((setAcc_changesOnly s _).trans (advance_changesOnly _ _))
  | add | sub | clb | iac | ral | rar | tcc | dac | tcs | daa =>
    exact nextChangesOnly_next ((setAccCy_changesOnly s _).trans (advance_changesOnly _ _))
  | clc | cmc | stc => exact nextChangesOnly_next ((setCy_changesOnly s _).trans (advance_changesOnly _ _))
  | dcl => exact nextChangesOnly_next ((setCr_changesOnly s _).trans (advance_changesOnly _ _))
  | hlt =>
    exact nextChangesOnly_on4040 _ (nextChangesOnly_next ((advance_changesOnly s 1).trans (setHalted_changesOnly _ _)))
  | bbs => exact nextChangesOnly_on4040 _ (returnFromInterrupt_changesOnly s)
  | lcr | or4 | or5 | an6 | an7 =>
    exact nextChangesOnly_on4040 _ (nextChangesOnly_next ((setAcc_changesOnly s _).trans (advance_changesOnly _ _)))
  | db0 | db1 =>
    exact nextChangesOnly_on4040 _ (nextChangesOnly_next ((selectRomBank_changesOnly s _).trans (advance_changesOnly _ _)))
  | sb0 | sb1 =>
    exact nextChangesOnly_on4040 _ (nextChangesOnly_next ((setSb_changesOnly s _).trans (advance_changesOnly _ _)))
  | ein | din =>
    exact nextChangesOnly_on4040 _ (nextChangesOnly_next ((setIe_changesOnly s _).trans (advance_changesOnly _ _)))
  | rpm => exact nextChangesOnly_on4040 _ (nextChangesOnly_next (((setAcc_changesOnly s _).trans
      (setHalfSel_changesOnly _ _)).trans (advance_changesOnly _ _)))
  | src p => exact execSrc_changesOnly s p
  | wrm | wmp | wr0 | wr1 | wr2 | wr3 => exact execWrite_changesOnly s _
  | wrr => exact nextChangesOnly_onNext_advance 1 (romWrite_changesOnly s)
  | wpm => exact nextChangesOnly_next (((writeProgRam_changesOnly s _).trans
      (setHalfSel_changesOnly _ _)).trans (advance_changesOnly _ _))
  | sbm => exact execReadArith_changesOnly s .sbm (sub4 s.acc · s.cy) (by simp)
  | adm => exact execReadArith_changesOnly s .adm (add4 · s.acc s.cy) (by simp)
  | rdm | rd2 => exact execRead_changesOnly s _ (by simp [mayChange]) (by simp [mayChange])
  | rd0 | rd1 | rd3 => exact execRead_changesOnly s _ (by simp [mayChange]) (by simp)
  | rdr => exact nextChangesOnly_onNext_advance 1 (romRead_changesOnly s)

/-- The parts that no instruction changes (R45, R69, R75). -/
theorem not_mem_mayChange (i : Instr) :
    .plat ∉ mayChange i ∧ .rom ∉ mayChange i ∧ .inputs ∉ mayChange i ∧ .clock ∉ mayChange i := by
  cases i <;> simp [mayChange]

theorem fetchDecode_run_changesOnly {s t : State} {i : Instr} (h : fetchDecode s = .run i t) :
    ChangesOnly [.bank] s t := by
  obtain rfl | rfl := fetchDecode_eq_run h
  · exact bankUpdate_changesOnly s
  · exact ((bankUpdate_changesOnly s).trans (bankUpdate_changesOnly _)).mono

theorem beginStep_run_changesOnly {s t : State} {i : Instr} (h : beginStep s = .run i t) :
    ChangesOnly mayChangeBefore s t := by
  obtain ⟨-, -, hf⟩ := beginStep_eq_run h
  exact ((environmentMoves_changesOnly s).trans (fetchDecode_run_changesOnly hf)).mono

theorem beginStep_quiet_changesOnly {s t : State} (h : beginStep s = .quiet t) : ChangesOnly mayChangeBefore s t := by
  have moved := environmentMoves_changesOnly s
  obtain ⟨-, he⟩ | ⟨-, -, rfl⟩ := beginStep_eq_quiet h
  · exact (moved.trans ((interruptEntry_changesOnly _).changesOnly he)).mono
  · exact (moved.trans (haltedStep_changesOnly _)).mono

/-- A part that neither the instructions nor the rest of a step may change, and that its end keeps, is the same after it. -/
theorem step_same {s t : State} (h : step s = .next t) {p : Part} (hb : p ∉ mayChangeBefore) (hi : ∀ i, p ∉ mayChange i)
    (ht : ∀ u, p.Same u (tick u)) : p.Same s t := by
  obtain ⟨u, hu, rfl⟩ | ⟨i, u, v, hu, hv, rfl⟩ := step_eq_next h
  · exact (beginStep_quiet_changesOnly hu p hb).trans (ht u)
  · exact ((beginStep_run_changesOnly hu p hb).trans ((exec_changesOnly i u).changesOnly hv p (hi i))).trans (ht v)

/-- DAA may set the carry and never clears it (R161). -/
theorem decimalAdjust_keeps_carry (acc : Nibble) : (decimalAdjust acc 1#1).2 = 1#1 := by
  simp [decimalAdjust]

theorem exec_daa_keeps_carry {s t : State} (h : exec .daa s = .next t) (hc : s.cy = 1#1) : t.cy = 1#1 := by
  cases h
  exact hc.symm ▸ decimalAdjust_keeps_carry s.acc

end

/-! ### The statements -/

section
open Sys2Proof.Machine

/-- Settles O58: the table `mayChange` bounds what an instruction changes; read by part, it is the statement's table. -/
theorem whoWritesWhat : Obligations.WhoWritesWhat := by
  refine ⟨fun s t h => ⟨?_, ?_⟩, fun i s t h => ?_⟩
  · exact step_same (p := .plat) h (by simp [mayChangeBefore]) (fun i => have ⟨hplat, _⟩ := not_mem_mayChange i; hplat) tick_plat
  · exact step_same (p := .rom) h (by simp [mayChangeBefore]) (fun i => have ⟨_, hrom, _⟩ := not_mem_mayChange i; hrom) fun _ => rfl
  have only : ChangesOnly (mayChange i) s t := (exec_changesOnly i s).changesOnly h
  obtain ⟨hplat, hrom, hinputs, hclock⟩ := not_mem_mayChange i
  have noClear (hc : s.cy = 1#1) (hc' : t.cy = 0#1) : i ≠ .daa := by
    rintro rfl
    exact absurd (hc'.symm.trans (exec_daa_keeps_carry h hc)) (by decide)
  refine ⟨only _ hplat, only _ hrom, only _ hinputs, only _ hclock, ?_ ∘ only.mem (p := .acc), ?_ ∘ only.mem (p := .cr),
    ?_ ∘ only.mem (p := .sb), ?_ ∘ only.mem (p := .ie), ?_ ∘ only.mem (p := .inService), ?_ ∘ only.mem (p := .halted),
    ?_ ∘ only.mem (p := .bank), ?_ ∘ only.mem (p := .stack), ?_ ∘ only.mem (p := .ir), ?_ ∘ only.mem (p := .srcReg),
    ?_ ∘ Or.imp (only.mem (p := .sel)) (only.mem (p := .romSel)), ?_ ∘ only.mem (p := .halfSel), ?_ ∘ only.mem (p := .pram),
    ?_ ∘ only.mem (p := .ramch), ?_ ∘ only.mem (p := .ramst), ?_ ∘ only.mem (p := .ramport), ?_ ∘ only.mem (p := .romport),
    ?_ ∘ only.mem (p := .kd), ?_ ∘ only.mem (p := .io), noClear, ?_ ∘ only.mem (p := .cy)⟩
  -- What is left of each part: the instructions whose row of the table names it.
  all_goals cases i <;> simp [mayChange]

/-- Settles O26: a register reads in the bank in force; each instruction is its 4040 effect. -/
theorem haltLogicAndIrBank : Obligations.HaltLogicAndIrBank := by
  refine ⟨fun s r => ⟨fun h => ?_, fun h => ?_, fun hr b => ?_⟩, fun s h => ?_⟩
  · rw [reg_eq_regUnder, irBank_of_c4040 h]
  · rw [reg_eq_regUnder, irBank_of_c4004 h]
  · exact regUnder_high hr s b (irBank s)
  · have view (r : Nibble) : regUnder s s.sb r = reg s r := by rw [reg_eq_regUnder, irBank_of_c4040 h]
    simp only [view]
    exact ⟨on4040_of_c4040 h _ _, on4040_of_c4040 h _ _, on4040_of_c4040 h _ _, on4040_of_c4040 h _ _,
      on4040_of_c4040 h _ _, on4040_of_c4040 h _ _, on4040_of_c4040 h _ _⟩

end

/-! ### The state after reset -/

section
open Sys2Proof.Machine
variable (p : Platform)

theorem resetOn_kd (b : BankNo) : look (w := 3) (State.resetOn p).kd b = Kd4269.reset := look_replicate (w := 3) _ b

theorem resetOn_io (b : BankNo) (h : Bit) : ioAt (State.resetOn p) b h = Io4265.reset p.enabled4265 :=
  look_replicate (w := 4) _ _

theorem resetOn_regUnder (b : Bit) (r : Nibble) : regUnder (State.resetOn p) b r = 0#4 := by
  unfold regUnder
  split
  · exact look_replicate (w := 3) _ _
  · split <;> exact look_replicate (w := 3) _ _

/-- The reset state has the invariant on every platform (R46). -/
theorem resetOn_inv : (State.resetOn p).Inv where
  memory := empty_wf
  depth _ := Nat.zero_le _
  rings := List.length_replicate
  pointer := Nat.zero_le _
  pending := Nat.zero_le _
  only4040 _ := ⟨rfl, rfl, rfl, rfl, rfl, rfl⟩
  fifos b := by
    rw [resetOn_kd]
    exact Nat.zero_le _
  ports hp b h he := by
    rw [resetOn_io] at he
    exact absurd (hp.symm.trans he) (by decide)

/-- Settles O60. -/
theorem resetState : Obligations.ResetState := fun p =>
  ⟨resetOn_inv p, rfl, rfl, rfl, resetOn_regUnder p, rfl, rfl, rfl, rfl, rfl, rfl, rfl, rfl,
    look_replicate (w := 3) none, look_replicate (w := 1) none, rfl, fun _ => ⟨rfl, rfl, rfl⟩,
    fun b => congrArg Kd4269.modes (resetOn_kd p b),
    fun b h => ⟨congrArg Io4265.mode (resetOn_io p b h), congrArg Io4265.enabled (resetOn_io p b h)⟩, rfl⟩

end
end Sys2Proof.Proofs

/-! PROOFS of the family 20_memory: every step keeps the invariant, what stops a fetch, who answers a selection, which cells
selections name. -/

/-! ### What the invariant asks of each part of the state -/

namespace Sys2Proof.Proofs

section
open Sys2Proof.Machine

/-- What the invariant asks of one part of the state, given the parameters. -/
def Part.Ok (s : State) : Part → Prop
  | .stack => (s.plat.stackWrap = false → s.stack.levels.length ≤ s.plat.stackDepth) ∧
      s.stack.ar.length = s.plat.stackDepth + 1 ∧ s.stack.sp ≤ s.plat.stackDepth
  | .bank => s.bank.count ≤ s.plat.romBankDelay ∧ (s.plat.cpu = .c4004 → s.bank = { rb := 0#1, next := 0#1, count := 0 })
  | .sb => s.plat.cpu = .c4004 → s.sb = 0#1
  | .ie => s.plat.cpu = .c4004 → s.ie = false
  | .inService => s.plat.cpu = .c4004 → s.inService = false
  | .halted => s.plat.cpu = .c4004 → s.halted = false
  | .srcReg => s.plat.cpu = .c4004 → s.srcReg = none
  | .rom => cellsWf 8192 s.mem.rom
  | .pram => cellsWf 16384 s.mem.pram
  | .ramch => cellsWf 2048 s.mem.ramch
  | .ramst => cellsWf 512 s.mem.ramst
  | .ramport => cellsWf 32 s.mem.ramport
  | .romport => cellsWf 32 s.mem.romport
  | .kd => ∀ b : BankNo, (look (w := 3) s.kd b).fifo.length ≤ s.plat.fifoDepth
  | .io => s.plat.enabled4265 = false →
      ∀ (b : BankNo) (high : Bit), (ioAt s b high).enabled = true → (ioAt s b high).mode ≠ none
  | .plat | .acc | .cy | .ir | .cr | .sel | .romSel | .halfSel | .inputs | .clock => True

/-- The invariant is a condition on each part by itself. -/
theorem inv_iff_forall_ok {s : State} : s.Inv ↔ ∀ p, Part.Ok s p := by
  constructor
  · rintro ⟨⟨hrom, hpram, hramch, hramst, hramport, hromport⟩, hdepth, hrings, hpointer, hpending, h4004, hfifos, hports⟩ p
    cases p with
    | stack => exact ⟨hdepth, hrings, hpointer⟩
    | bank => exact ⟨hpending, fun hc => (h4004 hc).1⟩
    | sb | ie | inService | halted | srcReg => intro hc; simp [h4004 hc]
    | kd => exact hfifos
    | io => exact hports
    | rom | pram | ramch | ramst | ramport | romport => assumption
    | _ => trivial
  · intro h
    obtain ⟨hdepth, hrings, hpointer⟩ := h .stack
    obtain ⟨hpending, hbank⟩ := h .bank
    exact ⟨⟨h .rom, h .pram, h .ramch, h .ramst, h .ramport, h .romport⟩, hdepth, hrings, hpointer, hpending,
      fun hc => ⟨hbank hc, h .sb hc, h .ie hc, h .inService hc, h .halted hc, h .srcReg hc⟩, h .kd, h .io⟩

/-- The condition on a part looks at that part and the parameters alone. -/
theorem Part.Ok.of_same {s t : State} {p : Part} (h : Part.Ok s p) (hplat : t.plat = s.plat) (hp : p.Same s t) :
    Part.Ok t p := by
  cases p with
  | plat | acc | cy | ir | cr | sel | romSel | halfSel | inputs | clock => trivial
  | _ =>
    simp only [Part.Ok, Part.Same, ioAt, hplat] at h hp ⊢
    rwa [hp]

/-- A change keeps the invariant if what it leaves in the parts it touches meets their conditions. -/
theorem inv_of_changesOnly {ps : List Part} {s t : State} (hi : s.Inv) (h : ChangesOnly ps s t)
    (hok : ∀ p ∈ ps, Part.Ok t p) (hplat : .plat ∉ ps := by simp [mayChange]) : t.Inv := by
  refine inv_iff_forall_ok.mpr fun p => ?_
  by_cases hp : p ∈ ps
  · exact hok p hp
  · exact (inv_iff_forall_ok.mp hi p).of_same (h .plat hplat) (h p hp)

/-! ### The stack -/

theorem pushStack_ok {s : State} (hi : s.Inv) {v : Addr} {st : Stack} (h : pushStack s v = some st) :
    Part.Ok (s.setStack st) .stack := by
  obtain ⟨hdepth, hrings, hpointer⟩ := inv_iff_forall_ok.mp hi .stack
  obtain ⟨hw, hlt, rfl⟩ | ⟨hw, rfl⟩ := pushStack_eq_some h
  · exact ⟨fun _ => by simpa using hlt, hrings, hpointer⟩
  · exact ⟨hdepth, by simpa using hrings, Nat.le_of_lt_succ (Nat.mod_lt _ (Nat.succ_pos _))⟩

theorem popStack_ok {s : State} (hi : s.Inv) {a : Addr} {st : Stack} (h : popStack s = some (a, st)) :
    Part.Ok (s.setStack st) .stack := by
  obtain ⟨hdepth, hrings, hpointer⟩ := inv_iff_forall_ok.mp hi .stack
  obtain ⟨hw, -, rfl⟩ | ⟨hw, hlevels, har, hsp, -⟩ := popStack_eq_some h
  · refine ⟨fun _ => ?_, hrings, hpointer⟩
    have := hdepth hw
    simp only [State.setStack_stack, State.setStack_plat, List.length_dropLast]
    omega
  · refine ⟨by simpa [hlevels] using hdepth, by simpa [har] using hrings, ?_⟩
    exact hsp ▸ Nat.le_of_lt_succ (Nat.mod_lt _ (Nat.succ_pos _))

/-! ### The devices -/

@[simp] theorem setDisplayReg_fifo (k : Kd4269) (v : Nibble) : (setDisplayReg k v).fifo = k.fifo := by
  unfold setDisplayReg
  split <;> rfl

@[simp] theorem advancePtr_fifo (o : OutMode) (k : Kd4269) : (advancePtr o k).fifo = k.fifo := rfl

@[simp] theorem blankDisplay_fifo (o : OutMode) (k : Kd4269) : (blankDisplay o k).fifo = k.fifo := rfl

theorem kdResetPointer_fifo (o : OutMode) (v : Nibble) (k : Kd4269) : (kdResetPointer o v k).fifo = k.fifo := by
  cases o <;> rfl

theorem kdSetModes_fifo_le {depth : Nat} {k : Kd4269} (hk : k.fifo.length ≤ depth) (now : Nat) (v : Nibble) :
    (kdSetModes depth now v k).fifo.length ≤ depth := by
  simp only [kdSetModes]
  split
  · exact hk
  · exact List.length_take_le _ _

theorem kdClearFifo_fifo {i : InMode} {k k' : Kd4269} (h : kdClearFifo i k = some k') : k'.fifo = [] := by
  cases i <;> cases h <;> rfl

/-- No write makes the FIFO of a 4269 deeper than it may be (R224, R227 to R241). -/
theorem kdWrite_fifo_le {depth now : Nat} {op : WriteOp} {v : Nibble} {k k' : Kd4269} (hk : k.fifo.length ≤ depth)
    (h : kdWrite depth now op v k = some k') : k'.fifo.length ≤ depth := by
  cases op with
  | wr0 => cases h; exact kdSetModes_fifo_le hk now v
  | wr1 =>
    obtain ⟨m, -, rfl⟩ := Option.map_eq_some_iff.mp h
    rwa [kdResetPointer_fifo]
  | wr2 =>
    obtain ⟨m, -, hclear⟩ := Option.bind_eq_some_iff.mp h
    simp [kdClearFifo_fifo hclear]
  | wr3 =>
    obtain ⟨m, -, rfl⟩ := Option.map_eq_some_iff.mp h
    exact Nat.zero_le _
  | wrm | wmp =>
    obtain ⟨m, -, rfl⟩ := Option.map_eq_some_iff.mp h
    simpa using hk

/-- RD2 consumes from the FIFO; nothing that a read does adds to it (R239). -/
theorem kdReadSecond_fifo_le {i : InMode} {d v : Nibble} {k k' : Kd4269} (h : kdReadSecond i d k = some (v, k')) :
    k'.fifo.length ≤ k.fifo.length := by
  cases i with
  | sensor => cases h; exact Nat.le_refl _
  | notUsed => cases h
  | contact | encoded =>
    simp only [kdReadSecond] at h
    split at h
    · cases h
      exact Nat.le_refl _
    · next e rest hf =>
      cases h
      simp [hf]

theorem kdRead_fifo_le {op : ReadOp} {d v : Nibble} {k k' : Kd4269} (h : kdRead op d k = some (v, k')) :
    k'.fifo.length ≤ k.fifo.length := by
  obtain (rfl | rfl) | rfl := kdRead_keeps_device h
  · obtain ⟨m, -, hm⟩ := Option.map_eq_some_iff.mp h
    cases hm
    exact Nat.le_refl _
  · obtain ⟨m, -, hm⟩ := Option.bind_eq_some_iff.mp h
    exact kdReadSecond_fifo_le hm
  · exact Nat.le_refl _

theorem kdSrcDisplay_fifo (o : OutMode) (e n : Nibble) (k : Kd4269) : (kdSrcDisplay o e n k).fifo = k.fifo := by
  have blanked : (if Config.gasBlankOverwrites then blankDisplay o k else k).fifo = k.fifo := by split <;> rfl
  simp only [kdSrcDisplay]
  split
  · split <;> rfl
  all_goals
    split
    · rfl
    · exact blanked
    · rfl

theorem kdSrcInput_fifo (i : InMode) (e n : Nibble) (k : Kd4269) : (kdSrcInput i e n k).fifo = k.fifo := by
  unfold kdSrcInput
  split
  · split <;> rfl
  all_goals rfl

theorem kdSrc_fifo (a : Byte) (k : Kd4269) : (kdSrc a k).fifo = k.fifo := by
  unfold kdSrc
  split
  · rfl
  · rw [kdSrcInput_fifo, kdSrcDisplay_fifo]

theorem applyMove_fifos_le {depth : Nat} {kds : Vector Kd4269 8}
    (h : ∀ b : BankNo, (look (w := 3) kds b).fifo.length ≤ depth) (m : DeviceMove) (b : BankNo) :
    (look (w := 3) (applyMove depth kds m) b).fifo.length ≤ depth := by
  cases m with
  | fifo c es =>
    rw [applyMove, look_put (w := 3)]
    split
    · exact List.length_take_le _ _
    · exact h b
  | sensors c | statusBuffer c | intLine c =>
    rw [applyMove, look_put (w := 3)]
    split
    · exact h c
    · exact h b

theorem applyMoves_fifos_le {depth : Nat} (moves : List DeviceMove) {kds : Vector Kd4269 8}
    (h : ∀ b : BankNo, (look (w := 3) kds b).fifo.length ≤ depth) (b : BankNo) :
    (look (w := 3) (moves.foldl (applyMove depth) kds) b).fifo.length ≤ depth := by
  induction moves generalizing kds with
  | nil => exact h b
  | cons m rest ih => exact ih (applyMove_fifos_le h m)

/-- The two 4265s agree on the mode and on whether the ports are enabled. -/
def SameSetting (d d' : Io4265) : Prop := d'.mode = d.mode ∧ d'.enabled = d.enabled

theorem SameSetting.refl (d : Io4265) : SameSetting d d := ⟨rfl, rfl⟩

theorem setPort_sameSetting (d : Io4265) (p : Port) (v : Nibble) : SameSetting d (setPort d p v) := by
  unfold setPort
  split
  · cases p <;> exact ⟨rfl, rfl⟩
  · exact .refl d

theorem setOutputPort_sameSetting (m : Fin 14) (d : Io4265) (p : Port) (v : Nibble) :
    SameSetting d (setOutputPort m d p v) := by
  unfold setOutputPort
  split
  · exact setPort_sameSetting d p v
  · exact .refl d

theorem ioSrc_sameSetting (a : Byte) (d : Io4265) : SameSetting d (ioSrc a d) := by
  unfold ioSrc
  split
  · obtain ⟨hm, he⟩ := setPort_sameSetting d .w (upper a)
    obtain ⟨hm', he'⟩ := setPort_sameSetting (setPort d .w (upper a)) .x (lower a)
    exact ⟨hm'.trans hm, he'.trans he⟩
  · exact .refl d

/-- Every write but WMP goes to the ports (R257, R259 to R262). -/
theorem ioWrite_sameSetting {op : WriteOp} {v : Nibble} {d d' : Io4265} (hop : op ≠ .wmp)
    (h : ioWrite op v d = some d') : SameSetting d d' := by
  cases op with
  | wmp => exact absurd rfl hop
  | wrm =>
    obtain ⟨m, -, rfl⟩ := Option.map_eq_some_iff.mp h
    exact setOutputPort_sameSetting m d _ _
  | wr0 | wr1 | wr2 | wr3 =>
    obtain ⟨m, -, rfl⟩ := Option.map_eq_some_iff.mp h
    simp only [ioWr0, ioWr1, ioWr2, ioWr3]
    split <;> simp only [setPort_sameSetting, setOutputPort_sameSetting, SameSetting.refl]

/-- What the invariant asks of a 4265 that does not start enabled (R253). -/
def EnabledHasMode (d : Io4265) : Prop := d.enabled = true → d.mode ≠ none

theorem EnabledHasMode.of_sameSetting {d d' : Io4265} (h : EnabledHasMode d) (hd : SameSetting d d') : EnabledHasMode d' := by
  obtain ⟨hm, he⟩ := hd
  rw [EnabledHasMode, hm, he]
  exact h

/-- After a WMP that does not stop a mode is set: its own, or one that was there (R253). -/
theorem ioCommand_mode_ne_none {v : Nibble} {d d' : Io4265} (h : ioCommand v d = some d') : d'.mode ≠ none := by
  unfold ioCommand at h
  split at h
  · cases h
    exact Option.some_ne_none _
  · split at h
    · cases h
    · next hm => cases h; exact hm

theorem ioWrite_enabledHasMode {op : WriteOp} {v : Nibble} {d d' : Io4265} (hd : EnabledHasMode d)
    (h : ioWrite op v d = some d') : EnabledHasMode d' := by
  by_cases hop : op = .wmp
  · subst hop
    exact fun _ => ioCommand_mode_ne_none h
  · exact hd.of_sameSetting (ioWrite_sameSetting hop h)

/-! ### The operations on the state keep the invariant -/

theorem setKdAt_inv {s : State} (hi : s.Inv) {b : BankNo} {k : Kd4269} (hk : k.fifo.length ≤ s.plat.fifoDepth) :
    (setKdAt s b k).Inv :=
  inv_of_changesOnly hi (setKd_changesOnly s _) <| List.forall_mem_singleton.mpr fun c => by
    show (look (w := 3) (put (w := 3) s.kd b k) c).fifo.length ≤ s.plat.fifoDepth
    rw [look_put (w := 3)]
    split
    · exact hk
    · exact hi.fifos c

theorem setIoAt_inv {s : State} (hi : s.Inv) {b : BankNo} {high : Bit} {d : Io4265}
    (hd : EnabledHasMode (ioAt s b high) → EnabledHasMode d) : (setIoAt s b high d).Inv :=
  inv_of_changesOnly hi (setIo_changesOnly s _) <| List.forall_mem_singleton.mpr fun hp c h => by
    show EnabledHasMode (look (w := 4) (put (w := 4) s.io (b ++ high) d) (c ++ h))
    rw [look_put (w := 4)]
    split
    · exact hd (hi.ports hp b high)
    · exact hi.ports hp c h

theorem setMem_inv {s : State} (hi : s.Inv) {m : Memory} (hm : m.wf) : (s.setMem m).Inv :=
  { hi with memory := hm }

theorem latchSelection_inv {s : State} (hi : s.Inv) (a : Byte) : (latchSelection s a).Inv :=
  inv_of_changesOnly hi (latchSelection_changesOnly s a) (by simp [Part.Ok])

theorem sendSrc_inv {s t : State} (hi : s.Inv) {a : Byte} (h : sendSrc s a = .next t) : t.Inv := by
  have latched := latchSelection_inv hi a
  obtain rfl | rfl | ⟨high, rfl⟩ := sendSrc_eq_next h
  · exact latched
  · exact setKdAt_inv latched ((kdSrc_fifo a _).symm ▸ hi.fifos _)
  · exact setIoAt_inv latched fun hd => hd.of_sameSetting (ioSrc_sameSetting a _)

theorem keepSrc_inv {s : State} (hi : s.Inv) (a : Byte) : (keepSrc s a).Inv := by
  unfold keepSrc
  split
  · next h =>
    have hcpu : s.plat.cpu = .c4040 := is4040_iff.mp (Bool.and_eq_true_iff.mp h).1
    exact inv_of_changesOnly hi (setSrcReg_changesOnly s _) (by simp [Part.Ok, hcpu])
  · exact hi

theorem returnFromInterrupt_inv {s t : State} (hi : s.Inv) (hcpu : s.plat.cpu = .c4040)
    (h : returnFromInterrupt s = .next t) : t.Inv := by
  obtain ⟨a, st, r, u, hpop, -, hsend, rfl⟩ := returnFromInterrupt_eq_next h
  have hplat : u.plat = s.plat := (sendSrc_changesOnly s r).changesOnly hsend .plat (by simp)
  have returned := ((setStack_changesOnly u st).trans (setPc_changesOnly _ a)).trans (setInService_changesOnly _ false)
  have hstack : Part.Ok (((u.setStack st).setPc a).setInService false) .stack :=
    (popStack_ok hi hpop).of_same hplat rfl
  exact inv_of_changesOnly (sendSrc_inv hi hsend) returned (by simpa [Part.Ok, hplat, hcpu] using hstack)

theorem interruptEntry_inv {s t : State} (hi : s.Inv) (hcpu : s.plat.cpu = .c4040) (h : interruptEntry s = .next t) :
    t.Inv := by
  obtain ⟨st, hpush, ht⟩ := interruptEntry_eq_next h
  have only := (interruptEntry_changesOnly s).changesOnly h
  have hplat : t.plat = s.plat := only .plat (by simp)
  have hst : t.stack = st := by rw [ht]; split <;> rfl
  have hstack : Part.Ok t .stack := (pushStack_ok hi hpush).of_same hplat hst
  exact inv_of_changesOnly hi only (by simpa [Part.Ok, hplat, hcpu] using hstack)

theorem haltedStep_inv {s : State} (hi : s.Inv) : (haltedStep s).Inv := by
  unfold haltedStep
  split
  · exact inv_of_changesOnly hi (setHalted_changesOnly s _) (by simp [Part.Ok])
  · exact hi

theorem bankUpdate_inv {s : State} (hi : s.Inv) : (bankUpdate s).Inv := by
  obtain h | ⟨h4040, -, -, h⟩ | ⟨h4040, -, -, h⟩ := bankUpdate_cases s
  · rwa [h]
  all_goals
    have := hi.pending
    rw [h]
    refine inv_of_changesOnly hi (setBank_changesOnly s _) ?_
    simp [Part.Ok, is4040_iff.mp h4040]
    omega

theorem environmentMoves_inv {s : State} (hi : s.Inv) : (environmentMoves s).Inv := by
  unfold environmentMoves
  split
  · exact inv_of_changesOnly hi (setKd_changesOnly s _) (List.forall_mem_singleton.mpr (applyMoves_fifos_le _ hi.fifos))
  · exact hi

theorem ramWrite_inv {op : WriteOp} {s t : State} (hi : s.Inv) (h : ramWrite op s = .next t) : t.Inv := by
  obtain ⟨a, -, ⟨-, rfl⟩ | ⟨-, rfl⟩ | ⟨k, -, hk, rfl⟩ | ⟨high, d, -, hd, rfl⟩⟩ := ramWrite_eq_next h
  · exact hi
  · exact setMem_inv hi (ram4002Write_wf hi.memory _ _ _ _)
  · exact setKdAt_inv hi (kdWrite_fifo_le (hi.fifos _) hk)
  · exact setIoAt_inv hi fun hold => ioWrite_enabledHasMode hold hd

theorem ramRead_inv {op : ReadOp} {s t : State} {f : Nibble → State → State} (hf : ∀ v u, u.Inv → (f v u).Inv)
    (hi : s.Inv) (h : ramRead op s f = .next t) : t.Inv := by
  obtain ⟨a, -, ⟨-, rfl⟩ | ⟨-, rfl⟩ | ⟨v, k, -, hk, rfl⟩ | ⟨high, v, -, -, rfl⟩⟩ := ramRead_eq_next h
  · exact hf _ s hi
  · exact hf _ s hi
  · exact hf v _ (setKdAt_inv hi ((kdRead_fifo_le hk).trans (hi.fifos _)))
  · exact hf v s hi

theorem advance_inv {s : State} (hi : s.Inv) (n : Nat) : (advance n s).Inv :=
  inv_of_changesOnly hi (advance_changesOnly s n) (by simp)

theorem onNext_advance_inv {n : Nat} {o : Host.Outcome State Fault Refusal} {t : State}
    (ho : ∀ u, o = .next u → u.Inv) (h : onNext o (advance n) = .next t) : t.Inv := by
  obtain ⟨u, hu, rfl⟩ := onNext_eq_next.mp h
  exact advance_inv (ho u hu) n

theorem setAcc_inv {s : State} (hi : s.Inv) (v : Nibble) : (s.setAcc v).Inv :=
  inv_of_changesOnly hi (setAcc_changesOnly s v) (by simp [Part.Ok])

theorem setStack_inv {s : State} (hi : s.Inv) {st : Stack} (h : Part.Ok (s.setStack st) .stack) : (s.setStack st).Inv :=
  inv_of_changesOnly hi (setStack_changesOnly s st) (List.forall_mem_singleton.mpr h)

theorem setPc_inv {s : State} (hi : s.Inv) (a : Addr) : (s.setPc a).Inv :=
  inv_of_changesOnly hi (setPc_changesOnly s a) (by simp)

/-! ### Every instruction and every step keeps the invariant -/

section Instructions
variable {s t : State} (hi : s.Inv)
include hi

theorem execJms_inv {a : Addr} (h : execJms a s = .next t) : t.Inv := by
  unfold execJms at h
  split at h
  · cases h
  · next st hpush =>
    cases h
    exact setPc_inv (setStack_inv hi (pushStack_ok hi hpush)) a

theorem execBbl_inv {d : Nibble} (h : execBbl d s = .next t) : t.Inv := by
  unfold execBbl at h
  split at h
  · cases h
  · next a st hpop =>
    cases h
    exact setAcc_inv (setPc_inv (setStack_inv hi (popStack_ok hi hpop)) a) d

theorem romWrite_inv (h : romWrite s = .next t) : t.Inv := by
  obtain ⟨n, -, ⟨-, rfl⟩ | ⟨-, rfl⟩⟩ := romWrite_eq_next h
  · exact setMem_inv hi (writeRomport_wf hi.memory _ _ _)
  · exact hi

/-- The parts that a 4004 does not have: the invariant asks nothing of their values on a 4040. -/
theorem exec_inv_of_c4040 {ps : List Part} (h4040 : s.plat.cpu = .c4040) (h : ChangesOnly ps s t)
    (hps : ps ⊆ [.sb, .ie, .halted, .acc, .halfSel]) : t.Inv := by
  have hplat : t.plat = s.plat := h .plat fun hp => by simpa using hps hp
  refine inv_of_changesOnly hi (h.mono hps) ?_
  simp [Part.Ok, hplat, h4040]

/-- Every instruction keeps the invariant. -/
theorem exec_inv (i : Instr) (h : exec i s = .next t) : t.Inv := by
  have only : ChangesOnly (mayChange i) s t := (exec_changesOnly i s).changesOnly h
  cases i with
  | jms => exact execJms_inv hi h
  | bbl => exact execBbl_inv hi h
  | hlt | sb0 | sb1 | ein | din =>
    obtain ⟨h4040, -⟩ := on4040_eq_next.mp h
    exact exec_inv_of_c4040 hi (is4040_iff.mp h4040) only (by simp [mayChange])
  | bbs =>
    obtain ⟨h4040, hret⟩ := on4040_eq_next.mp h
    exact returnFromInterrupt_inv hi (is4040_iff.mp h4040) hret
  | db0 | db1 =>
    obtain ⟨h4040, hnext⟩ := on4040_eq_next.mp h
    cases hnext
    exact inv_of_changesOnly hi only (by simp [mayChange, Part.Ok, is4040_iff.mp h4040])
  | src => exact onNext_advance_inv (fun _ => sendSrc_inv (keepSrc_inv hi _)) h
  | wrm | wmp | wr0 | wr1 | wr2 | wr3 => exact onNext_advance_inv (fun _ => ramWrite_inv hi) h
  | wrr => exact onNext_advance_inv (fun _ => romWrite_inv hi) h
  | wpm =>
    obtain ⟨-, hpram, -⟩ := writeProgRam_wf hi.memory s.acc
    cases h
    exact inv_of_changesOnly hi only (by simpa [mayChange, Part.Ok] using hpram)
  | rdm | rd2 => exact ramRead_inv (fun v _ hu => advance_inv (setAcc_inv hu v) 1) hi h
  | _ => exact inv_of_changesOnly hi only (by simp [mayChange, Part.Ok])

end Instructions

theorem tick_changesOnly (s : State) : ChangesOnly [.inputs, .clock] s (tick s) := fun p hp => by
  cases p with
  | inputs | clock => simp at hp
  | _ => rfl

theorem tick_inv {s : State} (hi : s.Inv) : (tick s).Inv :=
  inv_of_changesOnly hi (tick_changesOnly s) (by simp [Part.Ok])

theorem beginStep_quiet_inv {s t : State} (hi : s.Inv) (h : beginStep s = .quiet t) : t.Inv := by
  have moved := environmentMoves_inv hi
  obtain ⟨hr, he⟩ | ⟨-, -, rfl⟩ := beginStep_eq_quiet h
  · refine interruptEntry_inv moved (is4040_iff.mp ?_) he
    simp only [interruptRecognised, Bool.and_eq_true] at hr
    obtain ⟨⟨⟨h4040, -⟩, -⟩, -⟩ := hr
    exact h4040
  · exact haltedStep_inv moved

theorem beginStep_run_inv {s t : State} {i : Instr} (hi : s.Inv) (h : beginStep s = .run i t) : t.Inv := by
  obtain ⟨-, -, hf⟩ := beginStep_eq_run h
  have fetched := bankUpdate_inv (environmentMoves_inv hi)
  obtain rfl | rfl := fetchDecode_eq_run hf
  · exact fetched
  · exact bankUpdate_inv fetched

/-- Settles O59: what precedes the instruction, the instruction and the end of the step each keep the invariant. -/
theorem invariantKept : Obligations.InvariantKept := fun s t hi h => by
  obtain ⟨u, hu, rfl⟩ | ⟨i, u, v, hu, hv, rfl⟩ := step_eq_next h
  · exact tick_inv (beginStep_quiet_inv hi hu)
  · exact tick_inv (exec_inv (beginStep_run_inv hi hu) i hv)

end

/-! ### What stops a fetch -/

section
open Sys2Proof.Machine

theorem decodeFirst_eq_noRow_iff (w : Byte) : decodeFirst w = .noRow ↔ w = 0x0F#8 ∨ w = 0xFE#8 ∨ w = 0xFF#8 := by
  revert w
  decide

/-- Whatever words follow, the decoder rejects the first word exactly when it has no row (R96). -/
theorem decode_eq_noRow_iff (w w2 : Byte) (rest : List Byte) :
    decode (w :: w2 :: rest) = .error (.noRow w) ↔ decodeFirst w = .noRow := by
  cases h : decodeFirst w <;> simp [decode, h, FirstWord.twoWords, FirstWord.complete]

section Frames
variable (s : State)

@[simp] theorem environmentMoves_plat : (environmentMoves s).plat = s.plat := by
  obtain ⟨k, hk⟩ := environmentMoves_eq_setKd s
  rw [hk, State.setKd_plat]

@[simp] theorem environmentMoves_pc : (environmentMoves s).pc = s.pc := by
  obtain ⟨k, hk⟩ := environmentMoves_eq_setKd s
  rw [hk, State.setKd_pc]

@[simp] theorem environmentMoves_mem : (environmentMoves s).mem = s.mem := by
  obtain ⟨k, hk⟩ := environmentMoves_eq_setKd s
  rw [hk, State.setKd_mem]

@[simp] theorem bankUpdate_plat : (bankUpdate s).plat = s.plat := by
  obtain ⟨b, hb⟩ := bankUpdate_eq_setBank s
  rw [hb, State.setBank_plat]

@[simp] theorem bankUpdate_mem : (bankUpdate s).mem = s.mem := by
  obtain ⟨b, hb⟩ := bankUpdate_eq_setBank s
  rw [hb, State.setBank_mem]

end Frames

section Fetch
variable {s : State}

/-- Outside read/write program memory a word is there when the ROM lists it (R61, R70). -/
theorem progWord_of_rom {rb : Bit} {a : Addr} (h : isProgRam s.plat rb a = false) (u l : DrawSite) :
    progWord s rb a u l = readCell s.mem.rom (progKey rb a) := by
  simp [progWord, h]

theorem fetchDecode_of_no_first_word
    (h : progWord (bankUpdate s) (romBank (bankUpdate s)) s.pc .fetch1Upper .fetch1Lower = none) :
    fetchDecode s = .fault (.noProgramMemory s.pc (romBank (bankUpdate s)) s.pc) := by
  simp only [fetchDecode, h]

theorem fetchDecode_of_noRow {w : Byte}
    (hw : progWord (bankUpdate s) (romBank (bankUpdate s)) s.pc .fetch1Upper .fetch1Lower = some w)
    (h : decodeFirst w = .noRow) : fetchDecode s = .fault (.illegalInstruction s.pc w) := by
  simp [fetchDecode, hw, h, FirstWord.twoWords, FirstWord.complete]

theorem fetchDecode_of_no_second_word {w : Byte}
    (hw : progWord (bankUpdate s) (romBank (bankUpdate s)) s.pc .fetch1Upper .fetch1Lower = some w)
    (htwo : (decodeFirst w).twoWords = true)
    (h : progWord (bankUpdate (bankUpdate s)) (romBank (bankUpdate (bankUpdate s))) (nextAddr s 1)
      .fetch2Upper .fetch2Lower = none) :
    fetchDecode s = .fault (.noProgramMemory s.pc (romBank (bankUpdate (bankUpdate s))) (nextAddr s 1)) := by
  simp only [fetchDecode, hw, htwo, if_true, h]

/-- A stop of the fetch is a stop of the step, when no interrupt is recognised and the processor is not halted (R281). -/
theorem step_of_fetchDecode_fault {r : Fault} (hr : interruptRecognised (environmentMoves s) = false)
    (hh : isHalted (environmentMoves s) = false) (hf : fetchDecode (environmentMoves s) = .fault r) : step s = .fault r := by
  simp [step, beginStep, hr, hh, hf]

end Fetch

/-- Settles O4: the first words without a row, and each stop of a fetch carried through the step. -/
theorem fetchStops : Obligations.FetchStops := by
  refine ⟨fun w w2 rest => (decode_eq_noRow_iff w w2 rest).trans (decodeFirst_eq_noRow_iff w), ?_⟩
  rintro s _ rfl hr hh
  have hpc : (environmentMoves s).pc = s.pc := environmentMoves_pc s
  refine ⟨fun hrom hnone => ?_, fun w hw => ⟨fun hno => ?_, fun htwo hrom hnone => ?_⟩⟩
  · have missing := (progWord_of_rom (s := bankUpdate (environmentMoves s)) (by simpa using hrom)
      .fetch1Upper .fetch1Lower).trans (by simpa using hnone)
    rw [← hpc] at missing ⊢
    exact step_of_fetchDecode_fault hr hh (fetchDecode_of_no_first_word missing)
  · rw [← hpc] at hw ⊢
    exact step_of_fetchDecode_fault hr hh (fetchDecode_of_noRow hw ((decodeFirst_eq_noRow_iff w).mpr hno))
  · have missing := (progWord_of_rom (s := bankUpdate (bankUpdate (environmentMoves s))) (by simpa using hrom)
      .fetch2Upper .fetch2Lower).trans (by simpa using hnone)
    rw [← hpc] at hw missing ⊢
    exact step_of_fetchDecode_fault hr hh (fetchDecode_of_no_second_word hw htwo missing)

end

/-! ### Who answers a selection -/

section
open Sys2Proof.Machine

theorem modeGroup_eq_g12_iff (m : Fin 14) : modeGroup m = .g12 ↔ m = 12 ∨ m = 13 := by
  revert m
  decide

/-- A 4265 answers for its whole bank in the modes 12 and 13 (R256). -/
theorem answersWholeBank_iff {d : Io4265} : answersWholeBank d = true ↔ d.mode = some 12 ∨ d.mode = some 13 := by
  unfold answersWholeBank
  split
  · next h => simp [h]
  · next m h => simp [h, modeGroup_eq_g12_iff]

/-- A bank with more than the 4265 at chip 2 holds more than one device. -/
theorem occupied_ne_one_of_chip2 {m : BankMap} (h2 : m.chip2 = .dev4265)
    (h : m.chip0Ram = true ∨ m.chip1 ≠ .empty ∨ m.chip3 ≠ .empty) : occupied m ≠ 1 := by
  unfold occupied
  obtain h | h | h := h <;> simp only [h, h2, if_true, if_false, reduceCtorEq] <;> omega

theorem occupied_ne_one_of_chip3 {m : BankMap} (h3 : m.chip3 = .dev4265)
    (h : m.chip0Ram = true ∨ m.chip1 ≠ .empty ∨ m.chip2 ≠ .empty) : occupied m ≠ 1 := by
  unfold occupied
  obtain h | h | h := h <;> simp only [h, h3, if_true, if_false, reduceCtorEq] <;> omega

/-- Of the two chip addresses that a 4265 can have, the low chip bit is 0 at chip 2 and 1 at chip 3 (R255). -/
theorem lowChipBit_of_chip2 {a : Byte} (h : a.extractLsb' 6 2 = 2#2) : a.extractLsb' 6 1 = 0#1 := by
  revert a
  decide

theorem lowChipBit_of_chip3 {a : Byte} (h : a.extractLsb' 6 2 = 3#2) : a.extractLsb' 6 1 = 1#1 := by
  revert a
  decide

section Answers
variable {s : State} {b : BankNo}

/-- Where no 4265 of the bank is in mode 12 or 13 each chip address answers for itself (R67). -/
theorem bankAnswer_perChip
    (h2 : (look (w := 3) s.plat.banks b).chip2 ≠ .dev4265 ∨ answersWholeBank (ioAt s b 0#1) = false)
    (h3 : (look (w := 3) s.plat.banks b).chip3 ≠ .dev4265 ∨ answersWholeBank (ioAt s b 1#1) = false) :
    bankAnswer s b = .perChip := by
  have no2 : ((look (w := 3) s.plat.banks b).chip2 == .dev4265 && answersWholeBank (ioAt s b 0#1)) = false := by
    simpa [← imp_iff_not_or] using h2
  have no3 : ((look (w := 3) s.plat.banks b).chip3 == .dev4265 && answersWholeBank (ioAt s b 1#1)) = false := by
    simpa [← imp_iff_not_or] using h3
  simp [bankAnswer, no2, no3]

/-- The 4265 at chip 2 in mode 12 or 13 takes the whole bank, which must hold nothing else (R256). -/
theorem bankAnswer_whole2 (h2 : (look (w := 3) s.plat.banks b).chip2 = .dev4265)
    (hw : answersWholeBank (ioAt s b 0#1) = true) :
    bankAnswer s b = if occupied (look (w := 3) s.plat.banks b) = 1 then .whole 0#1 else .clash := by
  simp [bankAnswer, h2, hw]

/-- The 4265 at chip 3 in mode 12 or 13 takes the whole bank, which must hold nothing else (R256). -/
theorem bankAnswer_whole3 (h3 : (look (w := 3) s.plat.banks b).chip3 = .dev4265)
    (hw : answersWholeBank (ioAt s b 1#1) = true) :
    bankAnswer s b = if occupied (look (w := 3) s.plat.banks b) = 1
      then .whole (if (look (w := 3) s.plat.banks b).chip2 = .dev4265 ∧ answersWholeBank (ioAt s b 0#1) = true then 0#1 else 1#1)
      else .clash := by
  simp [bankAnswer, h3, hw]

theorem targetOf_of_whole {high : Bit} (h : bankAnswer s b = .whole high) (a : Byte) : targetOf s b a = .dev4265 high := by
  simp only [targetOf, h]

theorem targetOf_of_clash (h : bankAnswer s b = .clash) (a : Byte) : targetOf s b a = .clash := by
  simp only [targetOf, h]

section PerChip
variable {a : Byte} (h : bankAnswer s b = .perChip)
include h

theorem targetOf_chip0 (ha : a.extractLsb' 6 2 = 0#2) :
    targetOf s b a = if (look (w := 3) s.plat.banks b).chip0Ram then .ram4002 else .empty := by
  simp only [targetOf, h, slotOf, ha]
  cases (look (w := 3) s.plat.banks b).chip0Ram <;> rfl

theorem targetOf_chip1 (ha : a.extractLsb' 6 2 = 1#2) :
    targetOf s b a = if (look (w := 3) s.plat.banks b).chip1 = .dev4269 then .dev4269
      else if (look (w := 3) s.plat.banks b).chip1 = .ram4002 then .ram4002 else .empty := by
  simp only [targetOf, h, slotOf, ha]
  cases (look (w := 3) s.plat.banks b).chip1 <;> rfl

theorem targetOf_chip2 (ha : a.extractLsb' 6 2 = 2#2) :
    targetOf s b a = if (look (w := 3) s.plat.banks b).chip2 = .dev4265 then .dev4265 0#1
      else if (look (w := 3) s.plat.banks b).chip2 = .ram4002 then .ram4002 else .empty := by
  simp only [targetOf, h, slotOf, ha, lowChipBit_of_chip2 ha]
  cases (look (w := 3) s.plat.banks b).chip2 <;> rfl

theorem targetOf_chip3 (ha : a.extractLsb' 6 2 = 3#2) :
    targetOf s b a = if (look (w := 3) s.plat.banks b).chip3 = .dev4265 then .dev4265 1#1
      else if (look (w := 3) s.plat.banks b).chip3 = .ram4002 then .ram4002 else .empty := by
  simp only [targetOf, h, slotOf, ha, lowChipBit_of_chip3 ha]
  cases (look (w := 3) s.plat.banks b).chip3 <;> rfl

end PerChip

end Answers

/-! ### The RAM-side instructions at a selection that no device answers -/

/-- A write code is its effect outside, then the program counter (R191). -/
theorem exec_writeInstr (op : WriteOp) (s : State) : exec op.instr s = onNext (ramWrite op s) (advance 1) := by
  cases op <;> rfl

/-- A read code is what the device gives, received (R191, R210). -/
theorem exec_readInstr (op : ReadOp) (s : State) : exec op.instr s = ramRead op s (receive op) := by
  cases op <;> rfl

section Selection
variable {s : State} {a : Byte}

theorem ramWrite_of_clash (h : Selected s a .clash) (op : WriteOp) :
    ramWrite op s = .refused (.bankShared s.pc (bankOf s.cr)) := by
  obtain ⟨hsel, htarget⟩ := h
  simp only [ramWrite, hsel, htarget]

theorem ramRead_of_clash (h : Selected s a .clash) (op : ReadOp) (f : Nibble → State → State) :
    ramRead op s f = .refused (.bankShared s.pc (bankOf s.cr)) := by
  obtain ⟨hsel, htarget⟩ := h
  simp only [ramRead, hsel, htarget]

theorem ramWrite_of_empty (h : Selected s a .empty) (op : WriteOp) : ramWrite op s = .next s := by
  obtain ⟨hsel, htarget⟩ := h
  simp only [ramWrite, hsel, htarget]

theorem ramRead_of_empty (h : Selected s a .empty) (op : ReadOp) (f : Nibble → State → State) :
    ramRead op s f = .next (f (drawNow s .received) s) := by
  obtain ⟨hsel, htarget⟩ := h
  simp only [ramRead, hsel, htarget]

end Selection

/-- Settles O33: how the bank answers decides the target; a shared bank refuses every access. -/
theorem whoAnswers : Obligations.WhoAnswers := by
  refine ⟨?_, fun s a h => ⟨fun op => ?_, fun op => ?_⟩⟩
  · rintro s b a _ rfl
    refine ⟨fun h2 h3 => ?_, fun hlone hmode => ?_, fun hlone hmode => ?_, fun h2 hmode hshared => ?_,
      fun h3 hmode hshared => ?_⟩
    · have answer := bankAnswer_perChip h2 h3
      exact ⟨targetOf_chip0 answer, targetOf_chip1 answer, targetOf_chip2 answer, targetOf_chip3 answer⟩
    · have answer := bankAnswer_whole2 (congrArg BankMap.chip2 hlone) (answersWholeBank_iff.mpr hmode)
      exact targetOf_of_whole (answer.trans (if_pos (congrArg occupied hlone))) a
    · have answer := bankAnswer_whole3 (congrArg BankMap.chip3 hlone) (answersWholeBank_iff.mpr hmode)
      have alone : occupied (look (w := 3) s.plat.banks b) = 1 := congrArg occupied hlone
      rw [if_pos alone, if_neg (by simp [hlone])] at answer
      exact targetOf_of_whole answer a
    · have answer := bankAnswer_whole2 h2 (answersWholeBank_iff.mpr hmode)
      exact targetOf_of_clash (answer.trans (if_neg (occupied_ne_one_of_chip2 h2 hshared))) a
    · have answer := bankAnswer_whole3 h3 (answersWholeBank_iff.mpr hmode)
      exact targetOf_of_clash (answer.trans (if_neg (occupied_ne_one_of_chip3 h3 hshared))) a
  · rw [exec_writeInstr, ramWrite_of_clash h]
    rfl
  · rw [exec_readInstr, ramRead_of_clash h]

/-- Settles O38: a write is lost and a read receives a free value. -/
theorem emptyChipAddress : Obligations.EmptyChipAddress := fun s a h => by
  refine ⟨fun op => ?_, fun op => ⟨drawNow s .received, ?_⟩⟩
  · rw [exec_writeInstr, ramWrite_of_empty h]
    rfl
  · rw [exec_readInstr, ramRead_of_empty h]

end

/-! ### The flat addresses -/

section
open Sys2Proof.Machine

/-- A number written before the digits of a bit vector: the number and the bit vector can be read back. -/
theorem flatAddress_inj {w : Nat} (x x' : Nat) (y y' : BitVec w) :
    x * 2 ^ w + y.toNat = x' * 2 ^ w + y'.toNat ↔ x = x' ∧ y = y' := by
  constructor
  · intro h
    have hy : y = y' := by
      have hmod := congrArg (· % 2 ^ w) h
      simp only [Nat.mul_add_mod_self_right, Nat.mod_eq_of_lt y.isLt, Nat.mod_eq_of_lt y'.isLt] at hmod
      exact BitVec.eq_of_toNat_eq hmod
    subst hy
    exact ⟨Nat.eq_of_mul_eq_mul_right (Nat.two_pow_pos w) (Nat.add_right_cancel h), rfl⟩
  · rintro ⟨rfl, rfl⟩
    rfl

theorem ramchKey_inj {b b' : BankNo} {a a' : Byte} : ramchKey b a = ramchKey b' a' ↔ b = b' ∧ a = a' := by
  rw [← BitVec.toNat_inj (x := b)]
  exact flatAddress_inj _ _ a a'

theorem ramstKey_inj {b b' : BankNo} {a a' : Byte} {k k' : BitVec 2} :
    ramstKey b a k = ramstKey b' a' k' ↔ b = b' ∧ upper a = upper a' ∧ k = k' := by
  rw [← and_assoc, ← BitVec.toNat_inj (x := b), ← flatAddress_inj _ _ (upper a)]
  exact flatAddress_inj _ _ k k'

theorem ramportKey_inj {b b' : BankNo} {a a' : Byte} :
    ramportKey b a = ramportKey b' a' ↔ b = b' ∧ a.extractLsb' 6 2 = a'.extractLsb' 6 2 := by
  rw [← BitVec.toNat_inj (x := b)]
  exact flatAddress_inj _ _ (a.extractLsb' 6 2) _

/-- Settles O37. -/
theorem cellsOfSelections : Obligations.CellsOfSelections := fun _ _ _ _ _ _ =>
  ⟨ramchKey_inj, ramstKey_inj, ramportKey_inj⟩

end
end Sys2Proof.Proofs

/-! PROOFS of the family 30_encoding: the decoder undoes the encoder, the encoder undoes the decoder, and the first word decides
the length. -/

/-! ### The fields of an encoded word -/

namespace Sys2Proof.Proofs

section
open Sys2Proof.Machine

@[simp] theorem upper_pairWord (opr : Nibble) (p : PairNo) (low : Bit) : upper (pairWord opr p low) = opr := by
  revert opr p low; decide

@[simp] theorem pairField_lower_pairWord (opr : Nibble) (p : PairNo) (low : Bit) :
    pairField (lower (pairWord opr p low)) = p := by
  revert opr p low; decide

/-- OPA[0] of a PAIR or PAIRIMM word is its opcode bit (R91). -/
@[simp] theorem lower_pairWord_getElem_zero (opr : Nibble) (p : PairNo) (low : Bit) :
    (lower (pairWord opr p low))[0] = low[0] := by
  revert opr p low; decide

@[simp] theorem pageOf_inPage (page : Nibble) (low : Byte) : pageOf (inPage page low) = page :=
  BitVec.extractLsb'_append_eq_left

@[simp] theorem lowByte_inPage (page : Nibble) (low : Byte) : (inPage page low).extractLsb' 0 8 = low :=
  BitVec.extractLsb'_append_eq_right

@[simp] theorem inPage_pageOf_lowByte (a : Addr) : inPage (pageOf a) (a.extractLsb' 0 8) = a :=
  BitVec.extractLsb'_append_extractLsb' (w := 4) (len := 8)

end

/-! ### What the decoder answers, and the words behind a first word -/

section
open Sys2Proof.Machine

/-- The decoder answers either a one-word instruction that the first word names, or a two-word one that the word after it
completes (R90, R99). -/
theorem decode_cons_eq_ok {w : Byte} {rest rest' : List Byte} {i : Instr} :
    decode (w :: rest) = .ok (i, rest') ↔
      (decodeFirst w = .one i ∧ rest = rest') ∨
      ((decodeFirst w).twoWords = true ∧ ∃ w2, rest = w2 :: rest' ∧ (decodeFirst w).complete w2 = some i) := by
  cases h : decodeFirst w with
  | one => simp [decode, h, FirstWord.twoWords, FirstWord.complete]
  | noRow => simp [decode, h, FirstWord.twoWords, FirstWord.complete]
  | jcn | fim | jun | jms | isz =>
    cases rest <;> simp [decode, h, FirstWord.twoWords, FirstWord.complete, and_comm]

/-- A one-word instruction decodes whatever follows it. -/
theorem decode_of_one {w : Byte} {i : Instr} (h : decodeFirst w = .one i) (rest : List Byte) :
    decode (w :: rest) = .ok (i, rest) :=
  decode_cons_eq_ok.mpr (.inl ⟨h, rfl⟩)

/-- A two-word instruction decodes from its two words, whatever follows them. -/
theorem decode_of_two {w w2 : Byte} {f : FirstWord} {i : Instr} (h : decodeFirst w = f) (htwo : f.twoWords = true)
    (hi : f.complete w2 = some i) (rest : List Byte) : decode (w :: w2 :: rest) = .ok (i, rest) := by
  subst h
  exact decode_cons_eq_ok.mpr (.inr ⟨htwo, w2, rfl, hi⟩)

/-- The words of what a first word says, as far as it says them: for a two-word instruction, its first word. -/
def encodeFirst : FirstWord → List Byte
  | .one i => encode i
  | .jcn c => [joinHalves 0x1#4 c]
  | .fim p => [pairWord 0x2#4 p 0#1]
  | .jun a3 => [joinHalves 0x4#4 a3]
  | .jms a3 => [joinHalves 0x5#4 a3]
  | .isz r => [joinHalves 0x7#4 r]
  | .noRow => []

/-- No bit of a first word is ignored: the map of R93 to R95, checked at each of the 256 words. -/
theorem encodeFirst_decodeFirst (w : Byte) : decodeFirst w = .noRow ∨ encodeFirst (decodeFirst w) = [w] := by
  revert w; decide

/-- The second word completes the encoding too (R91, R92). -/
theorem encode_of_complete {f : FirstWord} {w2 : Byte} {i : Instr} (htwo : f.twoWords = true)
    (h : f.complete w2 = some i) : encode i = encodeFirst f ++ [w2] := by
  cases f with
  | one => cases htwo
  | noRow => cases htwo
  | jcn | fim | isz => cases h; rfl
  | jun | jms => cases h; simp [encode, encodeFirst]

/-- A one-word instruction that a first word names is encoded as that word. -/
theorem encode_of_one {w : Byte} {i : Instr} (h : decodeFirst w = .one i) : encode i = [w] := by
  simpa [h, encodeFirst] using encodeFirst_decodeFirst w

end

/-! ### The two round trips -/

section
open Sys2Proof.Machine

/-- Settles O1: the first word of each format gives back the instruction's row and operand; the second word gives back the rest. -/
theorem decodeOfEncode : Obligations.DecodeOfEncode := fun i rest => by
  cases i with
  | jcn c a => exact decode_of_two (f := .jcn c) (by simp [decodeFirst]) rfl rfl rest
  | isz r a => exact decode_of_two (f := .isz r) (by simp [decodeFirst]) rfl rfl rest
  | fim p d => exact decode_of_two (f := .fim p) (by simp [decodeFirst]) rfl rfl rest
  | jun a => exact decode_of_two (f := .jun (pageOf a)) (by simp [decodeFirst]) rfl (by simp [FirstWord.complete]) rest
  | jms a => exact decode_of_two (f := .jms (pageOf a)) (by simp [decodeFirst]) rfl (by simp [FirstWord.complete]) rest
  | src | fin | jin | inc | add | sub | ld | xch | bbl | ldm => exact decode_of_one (by simp [decodeFirst]) rest
  | _ => exact decode_of_one rfl rest

/-- Settles O2: no bit of the first word is ignored, and the second word is carried over whole. -/
theorem encodeOfDecode : Obligations.EncodeOfDecode := fun ws rest i h => by
  cases ws with
  | nil => cases h
  | cons w tail =>
    obtain ⟨hone, rfl⟩ | ⟨htwo, w2, rfl, hi⟩ := decode_cons_eq_ok.mp h
    · rw [encode_of_one hone]
      rfl
    · have hrow : decodeFirst w ≠ .noRow := fun hno => by simp [hno, FirstWord.twoWords] at htwo
      rw [encode_of_complete htwo hi, (encodeFirst_decodeFirst w).resolve_left hrow]
      rfl

/-- Settles O5: each word list is the encoding of the instruction beside it. -/
theorem wordsOfTheCard : Obligations.WordsOfTheCard :=
  ⟨decodeOfEncode .nop [], decodeOfEncode (.jcn 0b1010#4 0x5C#8) [], decodeOfEncode (.fim 3#3 0xC3#8) [],
    decodeOfEncode (.src 3#3) [], decodeOfEncode (.fin 5#3) [], decodeOfEncode (.jin 5#3) [],
    decodeOfEncode (.jun 0x25A#12) [], decodeOfEncode (.jms 0xE01#12) [], decodeOfEncode (.isz 9#4 0x80#8) [],
    decodeOfEncode (.sub 2#4) [], decodeOfEncode (.ldm 7#4) [], decodeOfEncode .rpm [], decodeOfEncode .wr0 [],
    decodeOfEncode .ral []⟩

end

/-! ### The length, and the fourteen instructions of the 4040 -/

/-- The first words that ask for a second one (R90), by OPR and OPA[0]. -/
theorem twoWords_decodeFirst_iff (w : Byte) :
    (decodeFirst w).twoWords = true ↔
      (w.extractLsb' 4 4 = 1#4 ∨ w.extractLsb' 4 4 = 4#4 ∨ w.extractLsb' 4 4 = 5#4 ∨ w.extractLsb' 4 4 = 7#4 ∨
        (w.extractLsb' 4 4 = 2#4 ∧ w.getLsbD 0 = false)) := by
  revert w; decide

theorem encode_length (i : Instr) : (encode i).length = i.words := by
  cases i <;> rfl

theorem words_eq_one_or_two (i : Instr) : i.words = 1 ∨ i.words = 2 := by
  cases i with
  | jcn | fim | jun | jms | isz => exact .inr rfl
  | _ => exact .inl rfl

theorem words_eq_two_iff (i : Instr) :
    i.words = 2 ↔
      (∃ c a, i = .jcn c a) ∨ (∃ p d, i = .fim p d) ∨ (∃ a, i = .jun a) ∨ (∃ a, i = .jms a) ∨ ∃ r a, i = .isz r a := by
  cases i <;> simp [Instr.words]

/-- Whether what a first word says is one of the fourteen instructions of the 4040. -/
def namesOnly4040 : FirstWord → Bool
  | .one i => i.only4040
  | .jcn _ | .fim _ | .jun _ | .jms _ | .isz _ | .noRow => false

/-- The first words of the fourteen (R94). -/
theorem namesOnly4040_decodeFirst_iff (w : Byte) : namesOnly4040 (decodeFirst w) = true ↔ 0x01 ≤ w.toNat ∧ w.toNat ≤ 0x0E := by
  revert w; decide

theorem words_of_only4040 {i : Instr} (h : i.only4040 = true) : i.words = 1 := by
  cases i with
  | jcn | fim | jun | jms | isz => cases h
  | _ => rfl

/-- A word that is the whole encoding of an instruction names it. -/
theorem decodeFirst_of_encode {w : Byte} {i : Instr} (h : encode i = [w]) : decodeFirst w = .one i := by
  have hd : decode [w] = .ok (i, []) := by simpa [h] using decodeOfEncode i []
  obtain ⟨hone, -⟩ | ⟨-, w2, hnil, -⟩ := decode_cons_eq_ok.mp hd
  · exact hone
  · cases hnil

/-- The fourteen are the one-word codes 01 to 0E (R94). -/
theorem only4040_iff (i : Instr) :
    i.only4040 = true ↔ ∃ w : Byte, encode i = [w] ∧ 0x01 ≤ w.toNat ∧ w.toNat ≤ 0x0E := by
  have code (w : Byte) (hw : encode i = [w]) : i.only4040 = true ↔ 0x01 ≤ w.toNat ∧ w.toNat ≤ 0x0E := by
    simpa only [decodeFirst_of_encode hw, namesOnly4040] using namesOnly4040_decodeFirst_iff w
  constructor
  · intro h
    obtain ⟨w, hw⟩ := List.length_eq_one_iff.mp ((encode_length i).trans (words_of_only4040 h))
    exact ⟨w, hw, (code w hw).mp h⟩
  · rintro ⟨w, hw, hrange⟩
    exact (code w hw).mpr hrange

theorem wellFormed_c4004_eq_false_iff (i : Instr) : i.WellFormed .c4004 = false ↔ i.only4040 = true := by
  simp [Instr.WellFormed]

/-- Settles O3: the shape of the decoder's answer is read off the first word; lengths by row; the fourteen are 01 to 0E. -/
theorem lengthByFirstWord : Obligations.LengthByFirstWord := by
  refine ⟨fun w rest rest' i h => ?_, fun i => ?_, fun i => ?_, fun i => ⟨rfl, ?_⟩⟩
  · rw [← twoWords_decodeFirst_iff w]
    obtain ⟨hone, hrest⟩ | ⟨htwo, w2, hrest, -⟩ := decode_cons_eq_ok.mp h
    · exact ⟨fun htwo => by simp [hone, FirstWord.twoWords] at htwo, fun _ => hrest⟩
    · exact ⟨fun _ => ⟨w2, hrest⟩, fun hone => absurd htwo hone⟩
  · rw [encode_length]
    exact words_eq_two_iff i
  · rw [encode_length]
    exact words_eq_one_or_two i
  · exact (wellFormed_c4004_eq_false_iff i).trans (only4040_iff i)

end Sys2Proof.Proofs

/-! PROOFS of the family 40_basic_machine: what a register write leaves in all 24 registers, the 4-bit sum and difference as
numbers, the targets within a page, the condition table of JCN, and a return from the stack that a call leaves. -/

namespace Sys2Proof.Proofs

/-! ### The program counter -/

section
open Sys2Proof.Machine

/-- The page of next(a) is the own page, but from the last word of a page the next one, the one after 15 being 0 (R145, D6). -/
theorem pageOf_add_one (a : Addr) :
    pageOf (a + 1#12) = if (a.extractLsb' 0 8).toNat = 0xFF then pageOf a + 1#4 else pageOf a := by
  apply BitVec.eq_of_toNat_eq
  split
  all_goals
    next h =>
    simp only [pageOf, BitVec.extractLsb'_toNat, BitVec.toNat_add, BitVec.toNat_ofNat, Nat.shiftRight_eq_div_pow] at h ⊢
    omega

theorem exec_jin (p : PairNo) (s : State) :
    exec (.jin p) s = .next { s with pc := inPage (pageOf (s.pc + 1#12)) (pair s p) } := rfl

/-- Settles O7: NOP is the advance of the program counter alone. -/
theorem nopOnlyAdvances : Obligations.NopOnlyAdvances :=
  ⟨rfl, decodeOfEncode .nop, fun _ => ⟨rfl, BitVec.toNat_add _ _, rfl, rfl⟩⟩

/-- Settles O8: both are a write of the accumulator and the advance of the program counter. -/
theorem loadsIntoAcc : Obligations.LoadsIntoAcc :=
  ⟨fun _ => rfl, fun _ => rfl, fun _ _ _ => ⟨rfl, rfl⟩⟩

/-- Settles O9: JUN is a write of the program counter. -/
theorem junJumps : Obligations.JunJumps :=
  ⟨fun _ => rfl, fun _ _ => rfl, fun _ => rfl⟩

/-- Settles O15: the page of the target is that of next(a). -/
theorem jinWithinPage : Obligations.JinWithinPage := fun p s => by
  rw [exec_jin, pageOf_add_one]
  refine ⟨fun h => ?_, fun h => ?_⟩
  · rw [if_neg (by omega)]
    rfl
  · rw [if_pos h]
    rfl

end

/-! ### The condition table of JCN -/

section
open Sys2Proof.Machine

/-- The rows of the card's table in the order of the condition, from `ACC = 0`, `CY = 1` and `Test = 0` (R131). -/
def conditionRows (accZero carry testLow : Bool) : List Bool :=
  [false, testLow, carry, testLow || carry,
    accZero, accZero || testLow, accZero || carry, accZero || (carry || testLow),
    true, !testLow, !carry, !testLow && !carry,
    !accZero, !accZero && !testLow, !accZero && !carry, !accZero && (!carry && !testLow)]

/-- C1 inverts, C2 to C4 choose among the three: that gives the card's sixteen rows. -/
theorem conditionRows_getElem (c : Nibble) (s : State) :
    (conditionRows (s.acc == 0#4) (s.cy == 1#1) (testIn s == 0#1))[c.toNat]? = some (jcnTaken c s) := by
  unfold jcnTaken
  generalize (s.acc == 0#4) = accZero, (s.cy == 1#1) = carry, (testIn s == 0#1) = testLow
  revert c accZero carry testLow
  decide

theorem bit_ne_zero_iff {b : Bit} : b ≠ 0#1 ↔ b = 1#1 := by revert b; decide

theorem bit_ne_one_iff {b : Bit} : b ≠ 1#1 ↔ b = 0#1 := by revert b; decide

/-- Settles O13: each row of the table is a condition on `ACC = 0`, `CY = 1` and `Test = 0`. -/
theorem jcnConditionTable : Obligations.JcnConditionTable := fun c a s => by
  have row := conditionRows_getElem c s
  simp only [conditionRows, beq_eq_decide] at row
  simp only [← bit_ne_zero_iff (b := testIn s), ← bit_ne_one_iff (b := s.cy), ne_eq, Bool.decide_or, Bool.decide_and,
    decide_not, row, Option.some.injEq]
  rfl

end

/-! ### All 24 registers after a register write -/

section
open Sys2Proof.Machine

/-- The table of eight registers that is in view under SB = b: registers 8 to 15, or 0 to 7 (R29). -/
def regTable (f : RegFile) (b : Bit) (high : Bool) : Vector Nibble 8 :=
  if high then f.common else if b = 0#1 then f.bank0 else f.bank1

theorem regUnder_eq_look (s : State) (b : Bit) (q : Nibble) :
    regUnder s b q = look (w := 3) (regTable s.ir b (q.getLsbD 3)) (regSlot q) := by
  unfold regUnder regTable
  split
  · rfl
  · split <;> rfl

/-- A register write is a write to the one table that holds the register in view (R29). -/
theorem regTable_regFileSet (s : State) (r v : Nibble) (b : Bit) (high : Bool) :
    regTable (regFileSet s r v) b high =
      if high = r.getLsbD 3 ∧ (high = true ∨ b = irBank s) then put (w := 3) (regTable s.ir b high) (regSlot r) v
      else regTable s.ir b high := by
  unfold regFileSet
  generalize r.getLsbD 3 = written
  cases written with
  | true => cases high <;> simp [regTable]
  | false =>
    obtain hbank | hbank := (irBank s).eq_zero_or_eq_one
    all_goals cases high <;> obtain rfl | rfl := b.eq_zero_or_eq_one <;> simp [regTable, hbank]

/-- A register write changes its own register in the bank in force and none of the others (R22, R29). -/
theorem regsKept_setReg (s : State) (r v : Nibble) : RegsKept (· = r) s (setReg s r v) := fun b q h => by
  simp only [regUnder_eq_look, setReg_ir, regTable_regFileSet]
  split
  · next hsame =>
    obtain ⟨hhigh, hview⟩ := hsame
    have hne : q ≠ r := h.resolve_right fun ⟨hlow, hout⟩ => hview.elim (Bool.eq_false_iff.mp hlow) hout
    exact look_put_ne (w := 3) _ _ _ _ fun hslot => hne (regSlot_eq hhigh hslot.symm)
  · rfl

/-- A further register write adds its register to those that may change. -/
theorem regsKept_setReg_after {written : Nibble → Prop} {s t : State} (h : RegsKept written s t) (hbank : irBank t = irBank s)
    (r v : Nibble) : RegsKept (fun q => written q ∨ q = r) s (setReg t r v) := fun b q hq => by
  rw [regsKept_setReg t r v b q (hbank.symm ▸ hq.imp_left fun hn => mt .inr hn)]
  exact h b q (hq.imp_left fun hn => mt .inl hn)

theorem regsKept_setPair (s : State) (p : PairNo) (d : Byte) :
    RegsKept (fun q => q = evenReg p ∨ q = oddReg p) s (setPair s p d) :=
  regsKept_setReg_after (regsKept_setReg s (evenReg p) (upper d)) rfl (oddReg p) (lower d)

@[simp] theorem reg_setPair_even (s : State) (p : PairNo) (d : Byte) : reg (setPair s p d) (evenReg p) = upper d := by
  rw [setPair, reg_setReg_ne _ _ (evenReg_ne_oddReg p).symm, reg_setReg_same]

@[simp] theorem reg_setPair_odd (s : State) (p : PairNo) (d : Byte) : reg (setPair s p d) (oddReg p) = lower d :=
  reg_setReg_same _ _ _

/-- Settles O10: one register write, and the accumulator from the state before it. -/
theorem xchExchanges : Obligations.XchExchanges := fun r s =>
  ⟨_, rfl, rfl, reg_setReg_same s r s.acc, regsKept_setReg s r s.acc, rfl⟩

theorem increment_eq_zero_iff (v : Nibble) : v + 1#4 = 0#4 ↔ v = 15#4 := by revert v; decide

theorem exec_isz (r : Nibble) (a : Byte) (s : State) :
    exec (.isz r a) s = .next ((setReg s r (reg s r + 1#4)).setPc
      (if reg s r = 15#4 then s.pc + 2#12 else inPage (pageOf (s.pc + 2#12)) a)) := by
  simp only [exec, execIsz, ne_eq, increment_eq_zero_iff, ite_not]
  split <;> rfl

/-- Settles O11: both are one register write; ISZ's target is read off the old register, 15 being the one whose successor is 0. -/
theorem incAndIsz : Obligations.IncAndIsz := fun r a s => by
  have stored := reg_setReg_same s r (reg s r + 1#4)
  have successor : (reg s r + 1#4).toNat = ((reg s r).toNat + 1) % 16 := BitVec.toNat_add _ _
  have kept := regsKept_setReg s r (reg s r + 1#4)
  exact ⟨⟨_, rfl, (congrArg BitVec.toNat stored).trans successor, kept, rfl⟩,
    ⟨_, exec_isz r a s, (congrArg BitVec.toNat stored).trans successor, kept, rfl⟩⟩

/-- The address of FIN: the old content of pair 0 in the page of next(a) (R133). -/
theorem shortTarget_pair_zero (s : State) :
    shortTarget s 1 (pair s 0#3) = (s.pc + 1#12).extractLsb' 8 4 ++ (reg s 0#4 ++ reg s 1#4) := rfl

theorem exec_fin_of_some {p : PairNo} {d : Byte} {s : State}
    (h : progWord s (romBank s) (shortTarget s 1 (pair s 0#3)) .finUpper .finLower = some d) :
    exec (.fin p) s = .next (advance 1 (setPair s p d)) := by
  simp only [exec, execFin, h]

theorem exec_fin_of_none {p : PairNo} {s : State}
    (h : progWord s (romBank s) (shortTarget s 1 (pair s 0#3)) .finUpper .finLower = none) :
    exec (.fin p) s = .fault (.noProgramMemory s.pc (romBank s) (shortTarget s 1 (pair s 0#3))) := by
  simp only [exec, execFin, h]

/-- Settles O14: FIM and FIN write one pair. -/
theorem pairLoads : Obligations.PairLoads := fun p d s => by
  have even := reg_setPair_even s p d
  have odd := reg_setPair_odd s p d
  have kept := regsKept_setPair s p d
  rw [← shortTarget_pair_zero]
  exact ⟨⟨_, rfl, even, odd, kept, rfl⟩, fun h => ⟨_, exec_fin_of_some h, even, odd, kept, rfl⟩, exec_fin_of_none⟩

end

/-! ### Sums and differences as numbers -/

section
open Sys2Proof.Machine

/-- The low four bits and the carry are the exact sum (R149). -/
theorem add4_exact (x y : Nibble) (c : Bit) :
    (add4 x y c).1.toNat + 16 * (add4 x y c).2.toNat = x.toNat + y.toNat + c.toNat := by
  simp only [add4, BitVec.toNat_ofNat]
  omega

/-- The carry of a difference is 16 that need not be borrowed (R149). -/
theorem sub4_exact (x y : Nibble) (b : Bit) :
    (sub4 x y b).1.toNat + 16 * (sub4 x y b).2.toNat + y.toNat + b.toNat = x.toNat + 16 := by
  have sum := add4_exact x (~~~y) (~~~b)
  simp only [sub4, BitVec.toNat_not] at sum ⊢
  omega

/-- The carry of a difference is 1 exactly where there is no borrow (R149). -/
theorem sub4_carry_iff (x y : Nibble) (b : Bit) : (sub4 x y b).2 = 1#1 ↔ y.toNat + b.toNat ≤ x.toNat := by
  have difference := sub4_exact x y b
  rw [← BitVec.toNat_inj, BitVec.toNat_ofNat]
  omega

/-- Settles O12: the four instructions store the exact sum or difference. -/
theorem addAndSubExact : Obligations.AddAndSubExact := fun r m s =>
  ⟨⟨_, rfl, add4_exact s.acc (reg s r) s.cy, rfl⟩,
    ⟨_, rfl, sub4_exact s.acc (reg s r) s.cy, sub4_carry_iff s.acc (reg s r) s.cy, rfl⟩,
    add4_exact m s.acc s.cy, sub4_exact s.acc m s.cy, sub4_carry_iff s.acc m s.cy⟩

end

/-! ### Call and return -/

section
open Sys2Proof.Machine

theorem exec_jms_of_some {a : Addr} {s : State} {st : Stack} (h : pushStack s (nextAddr s 2) = some st) :
    exec (.jms a) s = .next ((s.setStack st).setPc a) := by
  simp only [exec, execJms, h]

theorem exec_jms_of_none {a : Addr} {s : State} (h : pushStack s (nextAddr s 2) = none) :
    exec (.jms a) s = .fault (.stackOverflow s.pc) := by
  simp only [exec, execJms, h]

/-- A JMS that answers has pushed next(a) (R136). -/
theorem exec_jms_eq_next {a : Addr} {s t : State} (h : exec (.jms a) s = .next t) :
    ∃ st, pushStack s (nextAddr s 2) = some st ∧ t = (s.setStack st).setPc a := by
  cases hpush : pushStack s (nextAddr s 2) with
  | none => cases (exec_jms_of_none hpush).symm.trans h
  | some st => exact ⟨st, rfl, (Host.Outcome.next.inj ((exec_jms_of_some hpush).symm.trans h)).symm⟩

theorem exec_bbl_of_some {d : Nibble} {s : State} {a : Addr} {st : Stack} (h : popStack s = some (a, st)) :
    exec (.bbl d) s = .next (((s.setStack st).setPc a).setAcc d) := by
  simp only [exec, execBbl, h]

theorem exec_bbl_of_none {d : Nibble} {s : State} (h : popStack s = none) :
    exec (.bbl d) s = .fault (.stackUnderflow s.pc) := by
  simp only [exec, execBbl, h]

section ListStack
variable {s : State} (hlist : s.plat.stackWrap = false)
include hlist

theorem pushStack_of_room (h : s.stack.levels.length < s.plat.stackDepth) (v : Addr) :
    pushStack s v = some { s.stack with levels := s.stack.levels ++ [v] } := by
  simp [pushStack, hlist, h]

theorem pushStack_of_full (h : s.plat.stackDepth ≤ s.stack.levels.length) (v : Addr) : pushStack s v = none := by
  simp [pushStack, hlist, h]

theorem popStack_of_levels {l : List Addr} {v : Addr} (h : s.stack.levels = l ++ [v]) :
    popStack s = some (v, { s.stack with levels := l }) := by
  simp [popStack, hlist, h]

theorem popStack_of_empty (h : s.stack.levels = []) : popStack s = none := by
  simp [popStack, hlist, h]

end ListStack

/-- Settles O16: a call and a return are a push and a pop. -/
theorem callAndReturnOnList : Obligations.CallAndReturnOnList := fun _ _ _ hlist =>
  ⟨fun hroom => exec_jms_of_some (pushStack_of_room hlist hroom _),
    fun hfull => exec_jms_of_none (pushStack_of_full hlist hfull _),
    fun _ _ hlevels => exec_bbl_of_some (popStack_of_levels hlist hlevels),
    fun hempty => exec_bbl_of_none (popStack_of_empty hlist hempty)⟩

/-- The register of the ring after the one at `k`, for a ring of `depth + 1`. -/
theorem ringNext_eq {k depth : Nat} (h : k ≤ depth) : (k + 1) % (depth + 1) = if k = depth then 0 else k + 1 := by
  split
  · next hk => rw [hk, Nat.mod_self]
  · exact Nat.mod_eq_of_lt (by omega)

/-- The register of the ring before the one at `k`. -/
theorem ringPrev_eq {k depth : Nat} (h : k ≤ depth) :
    (k + depth) % (depth + 1) = if k = 0 then depth else k - 1 := by
  split
  · next hk => rw [hk, Nat.zero_add, Nat.mod_eq_of_lt (Nat.lt_succ_self depth)]
  · rw [show k + depth = k - 1 + (depth + 1) by omega, Nat.add_mod_right, Nat.mod_eq_of_lt (by omega)]

/-- Stepping the pointer on and back gives the pointer. -/
theorem ringPrev_ringNext {k depth : Nat} (h : k ≤ depth) :
    ((k + 1) % (depth + 1) + depth) % (depth + 1) = k := by
  rw [Nat.mod_add_mod, Nat.add_assoc, Nat.add_comm 1, Nat.add_mod_right, Nat.mod_eq_of_lt (by omega)]

/-- A ring of at least two registers moves its pointer. -/
theorem ringNext_ne {k depth : Nat} (h : k ≤ depth) (hdepth : 0 < depth) : (k + 1) % (depth + 1) ≠ k := by
  rw [ringNext_eq h]
  split <;> omega

section RingStack
variable {s : State} (hring : s.plat.stackWrap = true)
include hring

theorem pushStack_ring (v : Addr) : pushStack s v =
    some { s.stack with ar := s.stack.ar.set s.stack.sp v, sp := (s.stack.sp + 1) % (s.plat.stackDepth + 1) } := by
  simp [pushStack, hring]

/-- The program counter is the register at the pointer; the register before it becomes the program counter (R147, log 15). -/
theorem popStack_ring {sp : Nat} {v : Addr}
    (hsp : (s.stack.sp + s.plat.stackDepth) % (s.plat.stackDepth + 1) = sp)
    (hv : (s.stack.ar.set s.stack.sp s.pc)[sp]? = some v) :
    popStack s = some (v, { s.stack with ar := s.stack.ar.set s.stack.sp s.pc, sp := sp }) := by
  simp only [popStack, hring, if_true, hsp, List.getD_eq_getElem?_getD, hv, Option.getD_some]

end RingStack

/-- Settles O17: one register of the ring is written, the pointer moves to its neighbour. -/
theorem callAndReturnOnRing : Obligations.CallAndReturnOnRing := fun a d s hring hlength hpointer => by
  have hsp : s.stack.sp < s.stack.ar.length := hlength ▸ Nat.lt_succ_of_le hpointer
  have written (v : Addr) : (s.stack.ar.set s.stack.sp v)[s.stack.sp]? = some v := List.getElem?_set_self hsp
  have others (v : Addr) (k : Nat) (hk : k ≠ s.stack.sp) : (s.stack.ar.set s.stack.sp v)[k]? = s.stack.ar[k]? :=
    List.getElem?_set_ne hk.symm
  obtain ⟨sp, hback⟩ : ∃ sp, (s.stack.sp + s.plat.stackDepth) % (s.plat.stackDepth + 1) = sp := ⟨_, rfl⟩
  have hbound : sp < (s.stack.ar.set s.stack.sp s.pc).length := by
    rw [List.length_set, hlength, ← hback]
    exact Nat.mod_lt _ (Nat.succ_pos _)
  obtain ⟨v, hv⟩ : ∃ v, (s.stack.ar.set s.stack.sp s.pc)[sp]? = some v := ⟨_, List.getElem?_eq_getElem hbound⟩
  refine ⟨⟨_, exec_jms_of_some (pushStack_ring hring _), rfl, written _, others _, ringNext_eq hpointer, rfl⟩,
    ⟨_, exec_bbl_of_some (popStack_ring hring hback hv), rfl, hback.symm.trans (ringPrev_eq hpointer),
      fun hmoved => (others _ sp hmoved).symm.trans hv, fun hstays => ?_, others _, rfl⟩⟩
  have hsame : sp = s.stack.sp := hstays
  exact Option.some.inj (hv.symm.trans (hsame ▸ written s.pc))

/-- A pop finds what a push left on the stack, and leaves the stack that the push found (R146, R147). A ring of one register is
left out: the return address would be overwritten by the program counter, which that register is. -/
theorem popStack_of_pushStack {s u : State} {v : Addr} {st : Stack} (hi : s.Inv) (hdepth : 0 < s.plat.stackDepth)
    (hpush : pushStack s v = some st) (hstack : u.stack = st) (hplat : u.plat = s.plat) :
    ∃ st', popStack u = some (v, st') ∧ st'.levels = s.stack.levels ∧ st'.sp = s.stack.sp := by
  obtain ⟨hlist, -, rfl⟩ | ⟨hring, rfl⟩ := pushStack_eq_some hpush
  · exact ⟨_, popStack_of_levels (hplat.symm ▸ hlist) (congrArg Stack.levels hstack), rfl, by rw [hstack]⟩
  · have hsp : s.stack.sp < s.stack.ar.length := hi.rings ▸ Nat.lt_succ_of_le hi.pointer
    have hback : (u.stack.sp + u.plat.stackDepth) % (u.plat.stackDepth + 1) = s.stack.sp := by
      rw [hstack, hplat, ringPrev_ringNext hi.pointer]
    have htop : (u.stack.ar.set u.stack.sp u.pc)[s.stack.sp]? = some v := by
      rw [hstack, List.getElem?_set_ne (ringNext_ne hi.pointer hdepth), List.getElem?_set_self hsp]
    exact ⟨_, popStack_ring (hplat.symm ▸ hring) hback htop, by rw [hstack], rfl⟩

/-- Settles O18: the pop of the BBL finds what the push of the JMS left. -/
theorem bblResumesAfterJms : Obligations.BblResumesAfterJms := fun a d s t u hi hjms hstack hplat hdepth => by
  obtain ⟨st, hpush, rfl⟩ := exec_jms_eq_next hjms
  obtain ⟨st', hpop, hlevels, hsp⟩ := popStack_of_pushStack hi hdepth hpush hstack hplat
  exact ⟨_, exec_bbl_of_some hpop, rfl, rfl, hlevels, hsp, rfl⟩

end
end Sys2Proof.Proofs

/-! PROOFS of the family 41_accumulator_group: what each computation of the group answers as a number, as a ring of five bits or
bit by bit; each instruction stores that and advances. -/

/-! ### Clear, set, complement -/

namespace Sys2Proof.Proofs

section
open Sys2Proof.Machine

/-- Settles O19: CLB, CLC and STC store constants, CMC and CMA a complement. -/
theorem clearSetComplement : Obligations.ClearSetComplement :=
  ⟨rfl, rfl, rfl, rfl, rfl, fun _ => ⟨rfl, rfl, rfl, ⟨_, rfl, BitVec.toNat_not, rfl⟩,
    ⟨_, rfl, BitVec.toNat_not, fun k hk => by simp [hk], rfl⟩⟩⟩

end

/-! ### Counting, and the carry into the accumulator -/

section
open Sys2Proof.Machine

/-- The carry of a sum is 1 exactly where the sum does not fit in four bits (R149). -/
theorem add4_carry_iff (x y : Nibble) (c : Bit) : (add4 x y c).2 = 1#1 ↔ 16 ≤ x.toNat + y.toNat + c.toNat := by
  have sum := add4_exact x y c
  rw [← BitVec.toNat_inj, BitVec.toNat_ofNat]
  omega

theorem increment_toNat (a : Nibble) : (increment a).1.toNat = (a.toNat + 1) % 16 := by
  have sum : (increment a).1.toNat + 16 * (increment a).2.toNat = a.toNat + 1 := add4_exact a 1#4 0#1
  omega

theorem increment_carry_iff (a : Nibble) : (increment a).2 = 1#1 ↔ a = 15#4 := by
  have carry : (increment a).2 = 1#1 ↔ 16 ≤ a.toNat + 1 := add4_carry_iff a 1#4 0#1
  rw [carry, ← BitVec.toNat_inj, BitVec.toNat_ofNat]
  omega

/-- DAC adds 15, so that its carry says no borrow (R158). -/
theorem decrement_exact (a : Nibble) : (decrement a).1.toNat + 16 * (decrement a).2.toNat = a.toNat + 15 :=
  add4_exact a 15#4 0#1

theorem decrement_toNat (a : Nibble) : ((decrement a).1.toNat + 1) % 16 = a.toNat := by
  have sum := decrement_exact a
  omega

theorem decrement_carry_iff (a : Nibble) : (decrement a).2 = 0#1 ↔ a = 0#4 := by
  have sum := decrement_exact a
  rw [← BitVec.toNat_inj, ← BitVec.toNat_inj, BitVec.toNat_ofNat, BitVec.toNat_ofNat]
  omega

theorem transmitCarry_toNat (c : Bit) : (transmitCarry c).1.toNat = c.toNat := by
  rw [transmitCarry, BitVec.toNat_append]
  simp

theorem transferCarrySubtract_toNat (c : Bit) : (transferCarrySubtract c).1.toNat = 9 + c.toNat := by
  obtain rfl | rfl := BitVec.eq_zero_or_eq_one c <;> rfl

/-- Settles O20: each stores its computation, which does not take the old carry in IAC and DAC. -/
theorem countAndTransmitCarry : Obligations.CountAndTransmitCarry := fun s =>
  ⟨⟨_, rfl, increment_toNat s.acc, increment_carry_iff s.acc, rfl⟩,
    ⟨_, rfl, decrement_toNat s.acc, decrement_carry_iff s.acc, rfl⟩,
    ⟨_, rfl, transmitCarry_toNat s.cy, rfl⟩,
    ⟨_, rfl, transferCarrySubtract_toNat s.cy, rfl⟩⟩

end

/-! ### The ring of the carry and the accumulator -/

section
open Sys2Proof.Machine

/-- next(a) twice, each of one word, is next(a) of two words (R15). -/
theorem addr_add_one_add_one (a : Addr) : a + 1#12 + 1#12 = a + 2#12 := BitVec.add_assoc a 1#12 1#12

/-- RAL's halves, put together again, are the ring turned toward D3 (R155). -/
theorem rotateLeft_ring (a : Nibble) (c : Bit) :
    (rotateLeft a c).2 ++ (rotateLeft a c).1 = (c ++ a).rotateLeft 1 := by
  revert a c; decide

/-- RAR's halves, put together again, are the ring turned toward D0 (R156). -/
theorem rotateRight_ring (a : Nibble) (c : Bit) :
    (rotateRight a c).2 ++ (rotateRight a c).1 = (c ++ a).rotateRight 1 := by
  revert a c; decide

/-- RAR takes apart the halves that RAL has put together (R155, R156). -/
theorem rotateRight_rotateLeft (a : Nibble) (c : Bit) : rotateRight (rotateLeft a c).1 (rotateLeft a c).2 = (a, c) := by
  have low : (a.extractLsb' 0 3 ++ c).extractLsb' 1 3 = a.extractLsb' 0 3 := BitVec.extractLsb'_append_eq_left
  have bit : (a.extractLsb' 0 3 ++ c).extractLsb' 0 1 = c := BitVec.extractLsb'_append_eq_right
  have whole : a.extractLsb' 3 1 ++ a.extractLsb' 0 3 = a :=
    (BitVec.extractLsb'_append_extractLsb'_eq_extractLsb' rfl).trans BitVec.extractLsb'_eq_self
  simp only [rotateRight, rotateLeft, low, bit, whole]

theorem exec_rar (s : State) : exec .rar s = .next (advance 1 (setAccCy s (rotateRight s.acc s.cy))) := rfl

/-- A RAR in the state after a RAL. -/
theorem exec_rar_after_ral (s : State) :
    exec .rar (advance 1 (setAccCy s (rotateLeft s.acc s.cy))) = .next { s with pc := s.pc + 2#12 } := by
  simp only [exec_rar, advance_acc, advance_cy, setAccCy_acc, setAccCy_cy, rotateRight_rotateLeft,
    ← addr_add_one_add_one]
  rfl

/-- Settles O21: both turn the ring by one place. -/
theorem rotatesOfTheRing : Obligations.RotatesOfTheRing := fun s =>
  ⟨_, _, _, rfl, rotateLeft_ring s.acc s.cy, rfl, rfl, rotateRight_ring s.acc s.cy, rfl, exec_rar_after_ral s, rfl⟩

end

/-! ### Decimal addition -/

section
open Sys2Proof.Machine

/-- A digit without a carry is left alone (R161). -/
theorem decimalAdjust_digit {a : Nibble} (h : a.toNat ≤ 9) : decimalAdjust a 0#1 = (a, 0#1) :=
  if_neg (by simp [h])

/-- Above 9 and with a carry 6 is added; the carry is then 1, from the sum or from before (R161). -/
theorem decimalAdjust_add_six {a : Nibble} {c : Bit} (h : 9 < a.toNat ∨ c = 1#1) :
    (decimalAdjust a c).1.toNat = (a.toNat + 6) % 16 ∧ (decimalAdjust a c).2 = 1#1 := by
  have sum : (add4 a 6#4 0#1).1.toNat + 16 * (add4 a 6#4 0#1).2.toNat = a.toNat + 6 := add4_exact a 6#4 0#1
  have carry : (add4 a 6#4 0#1).2 = 1#1 ↔ 16 ≤ a.toNat + 6 := add4_carry_iff a 6#4 0#1
  simp only [decimalAdjust, if_pos h]
  refine ⟨by omega, ?_⟩
  split
  next => rfl
  next hfits =>
    rw [carry] at hfits
    exact h.resolve_left (by omega)

/-- Settles O22: the adjustment of each of the three ranges. -/
theorem daaAdjusts : Obligations.DaaAdjusts := fun s => by
  refine ⟨_, rfl, ?_, ?_, ?_, rfl⟩ <;> simp only [advance_acc, advance_cy, setAccCy_acc, setAccCy_cy]
  · rintro ⟨hdigit, hcy⟩
    rw [hcy, decimalAdjust_digit hdigit]
    exact ⟨rfl, rfl⟩
  · rintro ⟨hdigit, hcy⟩
    obtain ⟨sum, carry⟩ := decimalAdjust_add_six (a := s.acc) (.inr hcy)
    exact ⟨by omega, carry⟩
  · intro hlarge
    obtain ⟨sum, carry⟩ := decimalAdjust_add_six (a := s.acc) (c := s.cy) (.inl hlarge)
    exact ⟨by omega, carry⟩

/-- A binary sum up to 19, what two digits and a carry can give, becomes a decimal digit and the decimal carry (R164). -/
theorem decimalAdjust_exact {a : Nibble} {c : Bit} (h : a.toNat + 16 * c.toNat ≤ 19) :
    (decimalAdjust a c).1.toNat ≤ 9 ∧
      10 * (decimalAdjust a c).2.toNat + (decimalAdjust a c).1.toNat = a.toNat + 16 * c.toNat := by
  by_cases hadjust : 9 < a.toNat ∨ c = 1#1
  · obtain ⟨sum, carry⟩ := decimalAdjust_add_six hadjust
    rw [sum, carry, BitVec.toNat_ofNat]
    obtain hlarge | rfl := hadjust
    · omega
    · rw [BitVec.toNat_ofNat] at h ⊢
      omega
  · obtain ⟨hdigit, hcy⟩ := not_or.mp hadjust
    obtain rfl := (BitVec.eq_zero_or_eq_one c).resolve_right hcy
    rw [decimalAdjust_digit (Nat.le_of_not_lt hdigit)]
    exact ⟨Nat.le_of_not_lt hdigit, Nat.add_comm _ _⟩

/-- Settles O23: the adjustment of the exact binary sum. -/
theorem decimalAddition : Obligations.DecimalAddition := fun r s hacc hreg => by
  have sum := add4_exact s.acc (reg s r) s.cy
  obtain ⟨digit, decimal⟩ := decimalAdjust_exact (a := (add4 s.acc (reg s r) s.cy).1)
    (c := (add4 s.acc (reg s r) s.cy).2) (by omega)
  refine ⟨_, _, rfl, rfl, digit, decimal.trans sum, ?_⟩
  rw [← addr_add_one_add_one]
  rfl

end

/-! ### The keyboard code -/

section
open Sys2Proof.Machine

/-- The code of one bit is its position, counted from 1 (R162). -/
theorem keyboardProcess_two_pow {a : Nibble} {k : Nat} (hk : k < 4) (h : a.toNat = 2 ^ k) :
    (keyboardProcess a).toNat = k + 1 := by
  revert k a; decide

/-- Every code with two bits is none of the five that R162 lists. -/
theorem keyboardProcess_two_bits {a : Nibble} {j k : Nat} (hk : k < 4) (hjk : j < k) (hj : a.getLsbD j = true)
    (h : a.getLsbD k = true) : keyboardProcess a = 15#4 := by
  have codes : ∀ a : Nibble, ∀ k < 4, ∀ j < k,
      a.getLsbD j = true → a.getLsbD k = true → keyboardProcess a = 15#4 := by decide
  exact codes a k hk j hjk hj h

/-- Settles O24: no bit, one bit, or two bits, which both lie in the accumulator. -/
theorem kbpEncodes : Obligations.KbpEncodes := fun _ =>
  ⟨_, rfl, fun h => congrArg keyboardProcess h, fun _ hk h => keyboardProcess_two_pow hk h,
    fun ⟨_, _, hjk, hj, hk⟩ => keyboardProcess_two_bits (BitVec.lt_of_getLsbD hk) hjk hj hk, rfl⟩

end

/-! ### The command register -/

section
open Sys2Proof.Machine

theorem romBank_of_c4040 {s : State} (h : s.plat.cpu = .c4040) : romBank s = s.bank.rb := if_pos (is4040_iff.mpr h)

/-- Bank and CR side by side, as LCR reads them (R172). -/
theorem toNat_bank_append_cr (b : Bit) (c : BankNo) : (b ++ c).toNat = 8 * b.toNat + c.toNat := by
  rw [BitVec.toNat_append, ← Nat.shiftLeft_add_eq_or_of_lt c.isLt, Nat.shiftLeft_eq]
  omega

theorem exec_dcl (s : State) : exec .dcl s = .next (advance 1 (s.setCr (s.acc.extractLsb' 0 3))) := rfl

/-- On a 4040 LCR reads the bank in force above CR (R172, D12). -/
theorem exec_lcr_of_c4040 {s : State} (h : s.plat.cpu = .c4040) :
    exec .lcr s = .next (advance 1 (s.setAcc (s.bank.rb ++ s.cr))) := by
  rw [← romBank_of_c4040 h]
  exact on4040_of_c4040 h _ _

/-- Settles O25: DCL takes the low three bits, which LCR fills with CR. -/
theorem dclAndLcr : Obligations.DclAndLcr := by
  refine ⟨fun s => ⟨_, exec_dcl s, BitVec.extractLsb'_toNat 0 3 s.acc, rfl⟩, fun s hcpu =>
    ⟨_, exec_lcr_of_c4040 hcpu, toNat_bank_append_cr s.bank.rb s.cr, rfl, fun u v hacc hdcl => ?_⟩⟩
  cases (exec_dcl u).symm.trans hdcl
  calc u.acc.extractLsb' 0 3
    _ = (s.bank.rb ++ s.cr).extractLsb' 0 3 := congrArg (BitVec.extractLsb' 0 3) hacc
    _ = s.cr := BitVec.extractLsb'_append_eq_right

end
end Sys2Proof.Proofs

/-! PROOFS of the family 42_4040_only: when a request can be recognised, the count of the ROM bank switch, program RAM written and
read back, the stop of the fourteen on a 4004, and the return from an interrupt. -/

/-! ### The instructions of the 4040 on a 4040 -/

namespace Sys2Proof.Proofs

section
open Sys2Proof.Machine
variable {s : State} (h4040 : s.plat.cpu = .c4040)
include h4040

theorem exec_ein_of_c4040 : exec .ein s = .next { s with ie := true, pc := s.pc + 1#12 } := on4040_of_c4040 h4040 _ _

theorem exec_din_of_c4040 : exec .din s = .next { s with ie := false, pc := s.pc + 1#12 } := on4040_of_c4040 h4040 _ _

theorem exec_selectRomBank_of_c4040 (n : Bit) :
    exec (if n = 0#1 then .db0 else .db1) s = .next (advance 1 (selectRomBank s n)) := by
  obtain rfl | rfl := n.eq_zero_or_eq_one
  · exact on4040_of_c4040 h4040 _ _
  · exact on4040_of_c4040 h4040 _ _

theorem exec_bbs_of_c4040 : exec .bbs s = returnFromInterrupt s := on4040_of_c4040 h4040 _ _

end

/-! ### The recognition of a request -/

section
open Sys2Proof.Machine

@[simp] theorem environmentMoves_ie (s : State) : (environmentMoves s).ie = s.ie :=
  environmentMoves_changesOnly s .ie (by simp)

@[simp] theorem environmentMoves_inService (s : State) : (environmentMoves s).inService = s.inService :=
  environmentMoves_changesOnly s .inService (by simp)

/-- A request is recognised on what the state holds now: nothing is remembered (R285, D15). -/
theorem interruptRecognised_iff {s : State} :
    interruptRecognised s = true ↔ s.plat.cpu = .c4040 ∧ s.ie = true ∧ s.inService = false ∧ intIn s = true := by
  simp [interruptRecognised, is4040_iff, and_assoc]

theorem not_interruptRecognised_of_ie {s : State} (h : s.ie = false) : interruptRecognised (environmentMoves s) = false := by
  simp [interruptRecognised, h]

/-- A step that reaches an instruction takes the next state of that instruction (R281). -/
theorem step_of_run {s u v : State} {i : Instr} (hrun : beginStep s = .run i u) (hexec : exec i u = .next v) :
    step s = .next (tick v) := by
  simp only [step, hrun, hexec, onNext]

theorem beginStep_run_ie {s u : State} {i : Instr} (h : beginStep s = .run i u) : u.ie = s.ie := by
  obtain ⟨-, -, hf⟩ := beginStep_eq_run h
  exact ((environmentMoves_changesOnly s).trans (fetchDecode_run_changesOnly hf)) .ie (by simp)

/-- With IE = 0 no interrupt is entered, so a step without an instruction leaves IE at 0. -/
theorem beginStep_quiet_ie {s u : State} (hs : s.ie = false) (h : beginStep s = .quiet u) : u.ie = false := by
  obtain ⟨hr, -⟩ | ⟨-, -, rfl⟩ := beginStep_eq_quiet h
  · exact absurd (hr.symm.trans (not_interruptRecognised_of_ie hs)) (by decide)
  · have kept : (haltedStep (environmentMoves s)).ie = s.ie :=
      ((environmentMoves_changesOnly s).trans (haltedStep_changesOnly _)) .ie (by simp)
    exact kept.trans hs

theorem ie_mem_mayChange_iff (i : Instr) : .ie ∈ mayChange i ↔ i = .ein ∨ i = .din := by
  cases i <;> simp [mayChange]

/-- Only EIN sets IE (R182, R183). -/
theorem exec_ie_of_ne_ein {i : Instr} {s t : State} (hi : i ≠ .ein) (hs : s.ie = false) (h : exec i s = .next t) :
    t.ie = false := by
  by_cases hmay : .ie ∈ mayChange i
  · obtain rfl := ((ie_mem_mayChange_iff i).mp hmay).resolve_left hi
    obtain ⟨-, hnext⟩ := on4040_eq_next.mp h
    cases hnext
    rfl
  · have kept : t.ie = s.ie := (exec_changesOnly i s).changesOnly h .ie hmay
    exact kept.trans hs

/-- Settles O27: the next boundary looks at the IE that the instruction left and at the level then. -/
theorem interruptDetection : Obligations.InterruptDetection := by
  refine ⟨rfl, rfl, fun s h4040 => ⟨exec_ein_of_c4040 h4040, exec_din_of_c4040 h4040⟩, fun s h4040 hie => ?_,
    fun s u hrun h4040 => ⟨_, step_of_run hrun (exec_ein_of_c4040 h4040), rfl, ?_⟩,
    fun s u hrun h4040 => ⟨_, step_of_run hrun (exec_din_of_c4040 h4040), rfl, not_interruptRecognised_of_ie rfl⟩,
    fun s => not_interruptRecognised_of_ie, fun s t hs hstep => ?_, fun s hr => ?_⟩
  · rw [exec_ein_of_c4040 h4040, ← hie]
  · simp [interruptRecognised_iff, h4040]
  · obtain ⟨u, hu, rfl⟩ | ⟨i, u, v, hu, hv, rfl⟩ := step_eq_next hstep
    · rw [tick_ie]
      exact .inl (beginStep_quiet_ie hs hu)
    · by_cases hi : i = .ein
      · exact .inr ⟨u, hi ▸ hu⟩
      · rw [tick_ie]
        exact .inl (exec_ie_of_ne_ein hi ((beginStep_run_ie hu).trans hs) hv)
  · obtain ⟨-, -, -, hlevel⟩ := interruptRecognised_iff.mp hr
    exact hlevel

end

/-! ### The ROM bank switch -/

section
open Sys2Proof.Machine

theorem bankUpdate_of_settled {s : State} (h : s.bank.rb = s.bank.next) : bankUpdate s = s :=
  if_neg fun ⟨_, hne⟩ => hne h

theorem bankUpdate_of_due {s : State} (h4040 : s.plat.cpu = .c4040) (hne : s.bank.rb ≠ s.bank.next)
    (hc : s.bank.count = 0) : bankUpdate s = s.setBank { rb := s.bank.next, next := s.bank.next, count := s.bank.count } := by
  simp only [bankUpdate, is4040_iff.mpr h4040, hne, hc, if_true, and_self, ne_eq, not_false_eq_true]

theorem bankUpdate_of_pending {s : State} (h4040 : s.plat.cpu = .c4040) (hne : s.bank.rb ≠ s.bank.next)
    (hc : s.bank.count ≠ 0) : bankUpdate s = s.setBank { rb := s.bank.rb, next := s.bank.next, count := s.bank.count - 1 } := by
  simp only [bankUpdate, is4040_iff.mpr h4040, hne, hc, if_true, if_false, and_self, ne_eq, not_false_eq_true]

/-- The bank of the k-th word fetched: the old one as long as the count lasts, then the new one (R177, D11). -/
theorem romBank_iterate_bankUpdate {s : State} (h4040 : s.plat.cpu = .c4040) (k : Nat) :
    romBank (bankUpdate^[k] s) = if k ≤ s.bank.count then s.bank.rb else s.bank.next := by
  induction k generalizing s with
  | zero => exact romBank_of_c4040 h4040
  | succ k ih =>
    rw [Function.iterate_succ_apply]
    by_cases hne : s.bank.rb = s.bank.next
    · rw [bankUpdate_of_settled hne, ih h4040, hne, ite_self, ite_self]
    · by_cases hc : s.bank.count = 0
      · rw [bankUpdate_of_due h4040 hne hc, ih (by exact h4040)]
        simp [hc]
      · rw [bankUpdate_of_pending h4040 hne hc, ih (by exact h4040)]
        simp only [State.setBank_bank, Nat.le_sub_one_iff_lt (Nat.pos_of_ne_zero hc), Nat.succ_le_iff]

/-- Settles O28: DB0 and DB1 set the count to the delay. -/
theorem romBankSwitchDelay : Obligations.RomBankSwitchDelay := fun s n h4040 => by
  refine ⟨_, exec_selectRomBank_of_c4040 h4040 n, rfl, fun k => ?_⟩
  have fetched : romBank (bankUpdate^[k] (advance 1 (selectRomBank s n))) =
      if k ≤ s.plat.romBankDelay then (if s.plat.romBankDelay = 0 then n else s.bank.rb) else n :=
    romBank_iterate_bankUpdate (s := advance 1 (selectRomBank s n)) h4040 k
  refine ⟨fun hpos hk => ?_, fun hk => ?_⟩
  · rw [fetched, if_pos hk, if_neg (by omega), romBank_of_c4040 h4040]
  · rw [fetched, if_neg (by omega)]

end

/-! ### Program RAM -/

section
open Sys2Proof.Machine

@[simp] theorem otherHalf_otherHalf (h : Half) : otherHalf (otherHalf h) = h := by cases h <;> rfl

theorem halfKey_otherHalf_ne (rb : Bit) (a : Addr) (h : Half) : halfKey rb a (otherHalf h) ≠ halfKey rb a h := by
  cases h <;> simp only [halfKey, otherHalf] <;> omega

theorem readProgRam_of_written {s : State} {w : Bit × Addr} {v : Nibble} (hw : rpmWord s = some w)
    (hv : readCell s.mem.pram (halfKey w.1 w.2 s.halfSel) = some v) : readProgRam s = v := by
  simp only [readProgRam, hw, hv, Option.getD_some]

theorem readProgRam_of_no_word {s : State} (h : rpmWord s = none) : readProgRam s = drawNow s .received := by
  simp only [readProgRam, h]

theorem rpmWord_of_no_4289 {s : State} (h : s.plat.pages4289 = []) : rpmWord s = none := by
  refine Option.eq_none_iff_forall_ne_some.mpr fun w hw => ?_
  obtain ⟨-, hpage⟩ := rpmWord_eq_some.mp hw
  simp [h] at hpage

/-- The state that WPM leaves where the word is of program RAM (R196, R199). -/
def afterWpm (s : State) (w : Bit × Addr) : State :=
  advance 1 ((s.setMem { s.mem with pram := writeCell s.mem.pram (halfKey w.1 w.2 s.halfSel) s.acc }).setHalfSel
    (otherHalf s.halfSel))

theorem exec_wpm_of_some {s : State} {w : Bit × Addr} (h : progRamWord s = some w) : exec .wpm s = .next (afterWpm s w) := by
  simp only [exec, execWpm, writeProgRam, h, afterWpm]

/-- The state that RPM leaves on a 4040 (R184, R199). -/
def afterRpm (s : State) : State := advance 1 ((s.setAcc (readProgRam s)).setHalfSel (otherHalf s.halfSel))

theorem exec_rpm_of_c4040 {s : State} (h4040 : s.plat.cpu = .c4040) : exec .rpm s = .next (afterRpm s) :=
  on4040_of_c4040 h4040 _ _

/-- The state that two WPMs leave, of x and then of y. -/
def afterTwoWpm (s : State) (x y : Nibble) (w : Bit × Addr) : State :=
  afterWpm { afterWpm { s with acc := x } w with acc := y } w

section TwoHalves
variable (s : State) (x y : Nibble) (w : Bit × Addr)

/-- Which word it is does not depend on what program RAM holds, on the accumulator or on HALFSEL (R79, log 12). -/
theorem rpmWord_afterTwoWpm : rpmWord (afterTwoWpm s x y w) = rpmWord s := rfl

theorem rpmWord_afterRpm : rpmWord (afterRpm s) = rpmWord s := rfl

theorem afterTwoWpm_halfSel : (afterTwoWpm s x y w).halfSel = s.halfSel := otherHalf_otherHalf s.halfSel

/-- The two WPMs fill the two halves of one word. -/
theorem afterTwoWpm_pram : (afterTwoWpm s x y w).mem.pram =
    writeCell (writeCell s.mem.pram (halfKey w.1 w.2 s.halfSel) x) (halfKey w.1 w.2 (otherHalf s.halfSel)) y := rfl

variable {s w} (hw : rpmWord s = some w)
include hw

theorem readProgRam_afterTwoWpm : readProgRam (afterTwoWpm s x y w) = x := by
  refine readProgRam_of_written hw ?_
  rw [afterTwoWpm_halfSel, afterTwoWpm_pram, readCell_writeCell_ne _ _ _ _ (halfKey_otherHalf_ne _ _ _),
    readCell_writeCell_same]

theorem readProgRam_afterRpm_afterTwoWpm : readProgRam (afterRpm (afterTwoWpm s x y w)) = y := by
  refine readProgRam_of_written hw ?_
  show readCell (afterTwoWpm s x y w).mem.pram (halfKey w.1 w.2 (otherHalf (afterTwoWpm s x y w).halfSel)) = some y
  rw [afterTwoWpm_halfSel, afterTwoWpm_pram, readCell_writeCell_same]

end TwoHalves

/-- Settles O30: RPM reads the half that HALFSEL names of a word that does not depend on the contents, so the two RPMs meet
the two halves that the two WPMs wrote. -/
theorem rpmReadsBack : Obligations.RpmReadsBack := by
  refine ⟨fun s h4040 => ⟨_, exec_rpm_of_c4040 h4040, rfl, fun w v => readProgRam_of_written, fun hnone cells => ?_⟩,
    fun s => ⟨fun w hw => ?_, rpmWord_of_no_4289⟩, fun s x y w h4040 hw => ?_⟩
  · have hnone' : rpmWord { s with mem := { s.mem with pram := cells } } = none := hnone
    exact ⟨_, exec_rpm_of_c4040 (by exact h4040),
      (readProgRam_of_no_word hnone').trans (readProgRam_of_no_word hnone).symm⟩
  · obtain ⟨hword, -⟩ := rpmWord_eq_some.mp hw
    exact hword
  · obtain ⟨hword, -⟩ := rpmWord_eq_some.mp hw
    exact ⟨_, afterTwoWpm s x y w, _, _, exec_wpm_of_some hword, exec_wpm_of_some hword, exec_rpm_of_c4040 h4040,
      exec_rpm_of_c4040 h4040, readProgRam_afterTwoWpm x y hw, readProgRam_afterRpm_afterTwoWpm x y hw,
      (otherHalf_otherHalf _).trans (afterTwoWpm_halfSel s x y w)⟩

end

/-! ### The fourteen on a 4004 -/

section
open Sys2Proof.Machine

/-- The outcome is not the stop of a 4040-only instruction (R97). -/
def NotOnly4040Stop (o : Host.Outcome State Fault Refusal) : Prop := ∀ a w, o ≠ .fault (.notExecutableOn4004 a w)

theorem next_notOnly4040Stop (t : State) : NotOnly4040Stop (.next t) := fun _ _ h => by cases h

theorem onNext_notOnly4040Stop {o : Host.Outcome State Fault Refusal} (h : NotOnly4040Stop o) (f : State → State) :
    NotOnly4040Stop (onNext o f) := by
  cases o with
  | next t => exact next_notOnly4040Stop (f t)
  | fault r => exact h
  | refused r => exact h

section Operations
variable (s : State)

theorem sendSrc_notOnly4040Stop (a : Byte) : NotOnly4040Stop (sendSrc s a) := by
  unfold sendSrc deviceOnSrc
  split <;> rintro _ _ ⟨⟩

theorem returnFromInterrupt_notOnly4040Stop : NotOnly4040Stop (returnFromInterrupt s) := by
  unfold returnFromInterrupt
  split
  · rintro _ _ ⟨⟩
  · split
    · rintro _ _ ⟨⟩
    · exact onNext_notOnly4040Stop (sendSrc_notOnly4040Stop s _) _

theorem ramWrite_notOnly4040Stop (op : WriteOp) : NotOnly4040Stop (ramWrite op s) := by
  simp only [ramWrite]
  split
  · rintro _ _ ⟨⟩
  · split
    any_goals split
    all_goals rintro _ _ ⟨⟩

theorem ramRead_notOnly4040Stop (op : ReadOp) (f : Nibble → State → State) : NotOnly4040Stop (ramRead op s f) := by
  simp only [ramRead]
  split
  · rintro _ _ ⟨⟩
  · split
    any_goals split
    all_goals rintro _ _ ⟨⟩

theorem romWrite_notOnly4040Stop : NotOnly4040Stop (romWrite s) := by
  unfold romWrite
  split
  · rintro _ _ ⟨⟩
  · split <;> exact next_notOnly4040Stop _

theorem romRead_notOnly4040Stop : NotOnly4040Stop (romRead s) := by
  unfold romRead
  split
  · rintro _ _ ⟨⟩
  · exact next_notOnly4040Stop _

theorem execJms_notOnly4040Stop (a : Addr) : NotOnly4040Stop (execJms a s) := by
  unfold execJms
  split <;> rintro _ _ ⟨⟩

theorem execBbl_notOnly4040Stop (d : Nibble) : NotOnly4040Stop (execBbl d s) := by
  unfold execBbl
  split <;> rintro _ _ ⟨⟩

theorem execFin_notOnly4040Stop (p : PairNo) : NotOnly4040Stop (execFin p s) := by
  unfold execFin
  simp only
  split <;> rintro _ _ ⟨⟩

end Operations

/-- No other instruction stops as the fourteen do. -/
theorem exec_notOnly4040Stop {i : Instr} (h : i.only4040 = false) (s : State) : NotOnly4040Stop (exec i s) := by
  cases i with
  | jms a => exact execJms_notOnly4040Stop s a
  | bbl d => exact execBbl_notOnly4040Stop s d
  | fin p => exact execFin_notOnly4040Stop s p
  | src p => exact onNext_notOnly4040Stop (sendSrc_notOnly4040Stop _ _) _
  | wrm | wmp | wr0 | wr1 | wr2 | wr3 => exact onNext_notOnly4040Stop (ramWrite_notOnly4040Stop s _) _
  | sbm => exact ramRead_notOnly4040Stop s .sbm (receive .sbm)
  | adm => exact ramRead_notOnly4040Stop s .adm (receive .adm)
  | rdm | rd0 | rd1 | rd2 | rd3 => exact ramRead_notOnly4040Stop s _ fun m t => advance 1 (t.setAcc m)
  | wrr => exact onNext_notOnly4040Stop (romWrite_notOnly4040Stop s) _
  | rdr => exact onNext_notOnly4040Stop (romRead_notOnly4040Stop s) _
  | hlt | bbs | lcr | or4 | or5 | an6 | an7 | db0 | db1 | sb0 | sb1 | ein | din | rpm => cases h
  | _ => exact next_notOnly4040Stop _

/-- Each of the fourteen is an effect that only a 4040 has, under its own word, and that effect does not stop so (R97, R185). -/
theorem exec_eq_on4040 {i : Instr} (h : i.only4040 = true) (s : State) :
    ∃ w o, encode i = [w] ∧ exec i s = on4040 w s o ∧ NotOnly4040Stop o := by
  cases i with
  | bbs => exact ⟨_, _, rfl, rfl, returnFromInterrupt_notOnly4040Stop s⟩
  | hlt | lcr | or4 | or5 | an6 | an7 | db0 | db1 | sb0 | sb1 | ein | din | rpm =>
    exact ⟨_, _, rfl, rfl, next_notOnly4040Stop _⟩
  | _ => cases h

/-- On a 4004 the effect is the stop (R185). -/
theorem on4040_of_c4004 {s : State} (h : s.plat.cpu = .c4004) (w : Byte) (o : Host.Outcome State Fault Refusal) :
    on4040 w s o = .fault (.notExecutableOn4004 s.pc w) := if_neg (by simp [is4040, h])

/-- Settles O31: on a 4004 the stop of `on4040`; elsewhere no operation raises that fault. -/
theorem only4040StopsOn4004 : Obligations.Only4040StopsOn4004 := by
  have stops (i : Instr) (s : State) (h4004 : s.plat.cpu = .c4004) (h : i.only4040 = true) :
      ∃ w : Byte, encode i = [w] ∧ exec i s = .fault (.notExecutableOn4004 s.pc w) := by
    obtain ⟨w, o, hw, hexec, -⟩ := exec_eq_on4040 h s
    exact ⟨w, hw, hexec.trans (on4040_of_c4004 h4004 w o)⟩
  refine ⟨stops, fun i s => ?_⟩
  rw [← only4040_iff]
  constructor
  · rintro ⟨a, w, hstop⟩
    have h : i.only4040 = true := by
      by_contra hother
      exact exec_notOnly4040Stop (Bool.eq_false_iff.mpr hother) s a w hstop
    obtain ⟨w', o, -, hexec, ho⟩ := exec_eq_on4040 h s
    refine ⟨?_, h⟩
    cases hcpu : s.plat.cpu with
    | c4004 => rfl
    | c4040 => exact absurd ((on4040_of_c4040 hcpu w' o).symm.trans (hexec.symm.trans hstop)) (ho a w)
  · rintro ⟨h4004, h⟩
    obtain ⟨w, -, hstop⟩ := stops i s h4004 h
    exact ⟨s.pc, w, hstop⟩

end

/-! ### A SRC address sent, to the latches and to the device that it reaches -/

section
open Sys2Proof.Machine

/-- The 4269s after the address `a` was sent (R228, R229). -/
def kdAfterSrc (s : State) (a : Byte) : Vector Kd4269 8 :=
  if targetOf s (bankOf s.cr) a = .dev4269 then put (w := 3) s.kd (bankOf s.cr) (kdSrc a (kdNow s)) else s.kd

/-- The 4265s after the address `a` was sent (R255, R256). -/
def ioAfterSrc (s : State) (a : Byte) : Vector Io4265 16 :=
  match targetOf s (bankOf s.cr) a with
  | .dev4265 high => put (w := 4) s.io (bankOf s.cr ++ high) (ioSrc a (ioAt s (bankOf s.cr) high))
  | .empty | .ram4002 | .dev4269 | .clash => s.io

/-- The state after the address `a` was sent, where the bank is not shared (R66, R190). -/
def afterSendSrc (s : State) (a : Byte) : State :=
  { s with
    sel := put (w := 3) s.sel (bankOf s.cr) (some a)
    romSel := put (w := 1) s.romSel (romBank s) (some a)
    kd := kdAfterSrc s a
    io := ioAfterSrc s a }

section Sent
variable {s : State} {a : Byte}

theorem sendSrc_of_clash (h : targetOf s (bankOf s.cr) a = .clash) :
    sendSrc s a = .refused (.bankShared s.pc (bankOf s.cr)) := by
  have latched : targetOf (latchSelection s a) (bankOf s.cr) a = .clash := h
  simp only [sendSrc, deviceOnSrc, latched]
  rfl

theorem sendSrc_of_not_clash (h : targetOf s (bankOf s.cr) a ≠ .clash) : sendSrc s a = .next (afterSendSrc s a) := by
  have latched : targetOf (latchSelection s a) (bankOf s.cr) a = targetOf s (bankOf s.cr) a := rfl
  simp only [sendSrc, deviceOnSrc, latched, afterSendSrc, kdAfterSrc, ioAfterSrc]
  cases htarget : targetOf s (bankOf s.cr) a with
  | clash => exact absurd htarget h
  | empty | ram4002 | dev4269 | dev4265 => rfl

theorem selNow_afterSendSrc : selNow (afterSendSrc s a) = some a := look_put_same (w := 3) _ _ _

theorem afterSendSrc_sel_ne {b : BankNo} (h : b ≠ bankOf s.cr) :
    look (w := 3) (afterSendSrc s a).sel b = look (w := 3) s.sel b := look_put_ne (w := 3) _ _ _ _ h.symm

theorem afterSendSrc_romSel_same : look (w := 1) (afterSendSrc s a).romSel (romBank s) = some a := look_put_same (w := 1) _ _ _

theorem afterSendSrc_romSel_ne {rb : Bit} (h : rb ≠ romBank s) :
    look (w := 1) (afterSendSrc s a).romSel rb = look (w := 1) s.romSel rb := look_put_ne (w := 1) _ _ _ _ h.symm

/-- Each 4265 has its own place (R43). -/
theorem ioIndex_inj {b c : BankNo} {h g : Bit} : b ++ h = c ++ g ↔ b = c ∧ h = g := by
  revert b c h g
  decide

theorem ioAt_afterSendSrc_same {high : Bit} (h : targetOf s (bankOf s.cr) a = .dev4265 high) :
    ioAt (afterSendSrc s a) (bankOf s.cr) high = ioSrc a (ioAt s (bankOf s.cr) high) := by
  show look (w := 4) (ioAfterSrc s a) (bankOf s.cr ++ high) = _
  simp only [ioAfterSrc, h, look_put_same (w := 4)]

theorem ioAt_afterSendSrc_ne {b : BankNo} {high : Bit}
    (h : ¬ (b = bankOf s.cr ∧ targetOf s (bankOf s.cr) a = .dev4265 high)) :
    ioAt (afterSendSrc s a) b high = ioAt s b high := by
  show look (w := 4) (ioAfterSrc s a) (b ++ high) = look (w := 4) s.io (b ++ high)
  cases htarget : targetOf s (bankOf s.cr) a with
  | dev4265 reached =>
    simp only [ioAfterSrc, htarget]
    refine look_put_ne (w := 4) _ _ _ _ fun hindex => h ?_
    obtain ⟨hb, hhigh⟩ := ioIndex_inj.mp hindex
    exact ⟨hb.symm, htarget.trans (congrArg Target.dev4265 hhigh)⟩
  | empty | ram4002 | dev4269 | clash => simp only [ioAfterSrc, htarget]

end Sent

end

/-! ### The return from an interrupt -/

section
open Sys2Proof.Machine

/-- A pop stops on an empty list alone (R147). -/
theorem popStack_eq_none {s : State} (h : popStack s = none) : s.plat.stackWrap = false ∧ s.stack.levels = [] := by
  simp only [popStack] at h
  split at h
  · cases h
  · next hlist =>
    split at h
    · next hempty => exact ⟨by simpa using hlist, List.getLast?_eq_none_iff.mp hempty⟩
    · cases h

/-- The state that BBS leaves: the address sent, the return done, the service ended (R171). -/
def afterBbs (s : State) (r : Byte) (a : Addr) (st : Stack) : State :=
  { afterSendSrc s r with pc := a, stack := st, inService := false }

section Return
variable {s : State} {r : Byte} {a : Addr} {st : Stack} (h4040 : s.plat.cpu = .c4040) (hsrc : s.srcReg = some r)
  (hpop : popStack s = some (a, st))
include h4040 hsrc hpop

theorem exec_bbs_of_clash (h : targetOf s (bankOf s.cr) r = .clash) :
    exec .bbs s = .refused (.bankShared s.pc (bankOf s.cr)) := by
  simp only [exec_bbs_of_c4040 h4040, returnFromInterrupt, hpop, hsrc, sendSrc_of_clash h, onNext]

theorem exec_bbs_of_not_clash (h : targetOf s (bankOf s.cr) r ≠ .clash) : exec .bbs s = .next (afterBbs s r a st) := by
  simp only [exec_bbs_of_c4040 h4040, returnFromInterrupt, hpop, hsrc, sendSrc_of_not_clash h, onNext]
  rfl

end Return

/-- Settles O56: BBS pops as BBL does and sends SRCREG as SRC would; after an interrupt entry the pop finds what the entry
pushed. -/
theorem bbsEndsInterrupt : Obligations.BbsEndsInterrupt := by
  refine ⟨fun s r h4040 hsrc hstack => ?_, fun s t u r hi h4040 hdepth hentry hstack hplat hsrc hreach => ?_⟩
  · obtain ⟨⟨a, st⟩, hpop⟩ : ∃ p, popStack s = some p := by
      refine Option.ne_none_iff_exists'.mp fun hnone => ?_
      obtain ⟨hlist, hempty⟩ := popStack_eq_none hnone
      obtain ⟨-, hlevels⟩ | ⟨hring, -⟩ := hstack
      · exact hlevels hempty
      · exact absurd (hring.symm.trans hlist) (by decide)
    refine ⟨exec_bbs_of_clash h4040 hsrc hpop, fun hreach => ⟨_, exec_bbs_of_not_clash h4040 hsrc hpop hreach,
      selNow_afterSendSrc, afterSendSrc_romSel_same, fun b => afterSendSrc_sel_ne, fun rb => afterSendSrc_romSel_ne, rfl,
      fun h => ioAt_afterSendSrc_same, fun b h => ioAt_afterSendSrc_ne, fun hlist l v hlevels => ?_, fun d u hbbl => ?_,
      rfl⟩⟩
    · cases hpop.symm.trans (popStack_of_levels hlist hlevels)
      exact ⟨rfl, rfl⟩
    · cases (exec_bbl_of_some hpop).symm.trans hbbl
      exact ⟨rfl, rfl⟩
  · obtain ⟨st, hpush, ht⟩ := interruptEntry_eq_next hentry
    have entered : t.stack = st ∧ t.plat = s.plat := by
      rw [ht]
      split <;> exact ⟨rfl, rfl⟩
    obtain ⟨htstack, htplat⟩ := entered
    obtain ⟨st', hpop, hlevels, hsp⟩ :=
      popStack_of_pushStack hi hdepth hpush (hstack.trans htstack) (hplat.trans htplat)
    have hu4040 : u.plat.cpu = .c4040 := (congrArg Platform.cpu (hplat.trans htplat)).trans h4040
    exact ⟨_, exec_bbs_of_not_clash hu4040 hsrc hpop hreach, rfl, hlevels, hsp, rfl, selNow_afterSendSrc⟩

end
end Sys2Proof.Proofs

/-! PROOFS of the family 43_io_ram: the half of a program RAM word that WPM writes, the SRC address sent, what a 4002 and a ROM port
take and give, the stops before any SRC, and the data RAM banks that CR does not designate. -/

/-! ### One half of one word of program RAM -/

namespace Sys2Proof.Proofs

section
open Sys2Proof.Machine

theorem progKey_inj {rb rb' : Bit} {a a' : Addr} : progKey rb a = progKey rb' a' ↔ rb = rb' ∧ a = a' := by
  rw [← BitVec.toNat_inj (x := rb)]
  exact flatAddress_inj _ _ a a'

/-- Every half of every word of program memory has its own cell (R60, R199). -/
theorem halfKey_inj {rb rb' : Bit} {a a' : Addr} {h h' : Half} :
    halfKey rb a h = halfKey rb' a' h' ↔ rb = rb' ∧ a = a' ∧ h = h' := by
  rw [← and_assoc, ← progKey_inj]
  cases h <;> cases h' <;> simp only [halfKey, reduceCtorEq, and_true, and_false, iff_false] <;> omega

/-- The word that WPM acts on is of program RAM (R79, log 12). -/
theorem isProgRam_of_progRamWord {s : State} {w : Bit × Addr} (h : progRamWord s = some w) :
    isProgRam s.plat w.1 w.2 = true := by
  simp only [progRamWord] at h
  split at h
  · cases h
  · obtain ⟨hram, hw⟩ := Option.ite_none_right_eq_some.mp h
    cases hw
    exact hram

/-- A half of program RAM as a fetch sees it: a free value where nothing has written it (R80). -/
def fetchedHalf (s : State) (rb : Bit) (a : Addr) (h : Half) (site : DrawSite) : Nibble :=
  (readCell s.mem.pram (halfKey rb a h)).getD (drawNow s site)

/-- A word of program RAM is its two halves, the first one above (R75, R199). -/
theorem progWord_of_progRam {s : State} {rb : Bit} {a : Addr} (h : isProgRam s.plat rb a = true) (u l : DrawSite) :
    progWord s rb a u l = some (joinHalves (fetchedHalf s rb a .first u) (fetchedHalf s rb a .second l)) := if_pos h

theorem exec_wpm_of_none {s : State} (h : progRamWord s = none) :
    exec .wpm s = .next { s with halfSel := otherHalf s.halfSel, pc := s.pc + 1#12 } := by
  simp only [exec, execWpm, writeProgRam, h]
  rfl

section Written
variable (s : State) (w : Bit × Addr)

theorem afterWpm_pram_same : readCell (afterWpm s w).mem.pram (halfKey w.1 w.2 s.halfSel) = some s.acc :=
  readCell_writeCell_same _ _ _

theorem afterWpm_pram_ne {rb : Bit} {a : Addr} {h : Half} (hne : ¬ (rb = w.1 ∧ a = w.2 ∧ h = s.halfSel)) :
    readCell (afterWpm s w).mem.pram (halfKey rb a h) = readCell s.mem.pram (halfKey rb a h) :=
  readCell_writeCell_ne _ _ _ _ fun hkey => hne (halfKey_inj.mp hkey.symm)

/-- After WPM a fetch sees ACC in the half that HALFSEL named and the other half as before. -/
theorem fetchedHalf_afterWpm (h : Half) (site : DrawSite) :
    fetchedHalf (afterWpm s w) w.1 w.2 h site = if h = s.halfSel then s.acc else fetchedHalf s w.1 w.2 h site := by
  unfold fetchedHalf
  split
  · next hsame => rw [hsame, afterWpm_pram_same, Option.getD_some]
  · next hother =>
    rw [afterWpm_pram_ne s w fun ⟨_, _, hsame⟩ => hother hsame]
    rfl

variable {s w}

/-- A fetch of the word that WPM wrote. -/
theorem progWord_afterWpm (hw : progRamWord s = some w) {u l : DrawSite} {d : Byte} (hd : progWord s w.1 w.2 u l = some d) :
    progWord (afterWpm s w) w.1 w.2 u l =
      some (if s.halfSel = .first then joinHalves s.acc (lower d) else joinHalves (upper d) s.acc) := by
  have hram := isProgRam_of_progRamWord hw
  rw [progWord_of_progRam hram, Option.some.injEq] at hd
  rw [progWord_of_progRam (s := afterWpm s w) hram, fetchedHalf_afterWpm, fetchedHalf_afterWpm, ← hd, upper_joinHalves,
    lower_joinHalves]
  cases s.halfSel <;> rfl

end Written

/-- Settles O29: WPM writes the cell of one half, and no other half has that cell. -/
theorem wpmWritesOneHalf : Obligations.WpmWritesOneHalf := fun s =>
  ⟨exec_wpm_of_none, fun w hw => ⟨_, exec_wpm_of_some hw, afterWpm_pram_same s w, fun _ _ _ => afterWpm_pram_ne s w,
    fun _ => progWord_afterWpm hw, rfl⟩⟩

end

/-! ### SRC -/

section
open Sys2Proof.Machine

/-- SRCREG after the address `a` was sent by a SRC: a 4040 outside service keeps it (R33, D16). -/
def srcRegAfterSrc (s : State) (a : Byte) : Option Byte :=
  if s.plat.cpu = .c4040 ∧ s.inService = false then some a else s.srcReg

theorem keepSrc_eq (s : State) (a : Byte) : keepSrc s a = s.setSrcReg (srcRegAfterSrc s a) := by
  simp only [keepSrc, srcRegAfterSrc, Bool.and_eq_true, is4040_iff, Bool.not_eq_true']
  split <;> rfl

theorem exec_src (p : PairNo) (s : State) :
    exec (.src p) s = onNext (sendSrc (s.setSrcReg (srcRegAfterSrc s (pair s p))) (pair s p)) (advance 1) := by
  rw [← keepSrc_eq]
  rfl

/-- The state that SRC leaves where the bank is not shared: the latches and the device reached do not depend on SRCREG. -/
def afterSrc (s : State) (a : Byte) : State :=
  advance 1 ((afterSendSrc s a).setSrcReg (srcRegAfterSrc s a))

theorem exec_src_of_clash {p : PairNo} {s : State} (h : targetOf s (bankOf s.cr) (pair s p) = .clash) :
    exec (.src p) s = .refused (.bankShared s.pc (bankOf s.cr)) := by
  rw [exec_src, sendSrc_of_clash (by exact h)]
  rfl

theorem exec_src_of_not_clash {p : PairNo} {s : State} (h : targetOf s (bankOf s.cr) (pair s p) ≠ .clash) :
    exec (.src p) s = .next (afterSrc s (pair s p)) := by
  rw [exec_src, sendSrc_of_not_clash (by exact h)]
  rfl

/-- Settles O32: SRC is the address sent, and SRCREG. -/
theorem srcSendsAddress : Obligations.SrcSendsAddress := fun p s =>
  ⟨pair s p, rfl, exec_src_of_clash, fun hreach => ⟨_, exec_src_of_not_clash hreach, selNow_afterSendSrc,
    fun _ => afterSendSrc_sel_ne, afterSendSrc_romSel_same, fun _ => afterSendSrc_romSel_ne, rfl, rfl,
    fun _ => ioAt_afterSendSrc_same, fun _ _ => ioAt_afterSendSrc_ne, rfl⟩⟩

end

/-! ### The latch unset -/

section
open Sys2Proof.Machine
variable {s : State}

theorem ramWrite_of_unset (h : selNow s = none) (op : WriteOp) : ramWrite op s = .fault (.ioBeforeSrc s.pc) := by
  simp only [ramWrite, h]

theorem ramRead_of_unset (h : selNow s = none) (op : ReadOp) (f : Nibble → State → State) :
    ramRead op s f = .fault (.ioBeforeSrc s.pc) := by
  simp only [ramRead, h]

theorem exec_wrr_of_unset (h : look (w := 1) s.romSel (romBank s) = none) : exec .wrr s = .fault (.ioBeforeSrc s.pc) := by
  simp only [exec, execWrr, romWrite, romPort, h, Option.map_none, onNext]

theorem exec_rdr_of_unset (h : look (w := 1) s.romSel (romBank s) = none) : exec .rdr s = .fault (.ioBeforeSrc s.pc) := by
  simp only [exec, execRdr, romRead, romPort, h, Option.map_none, onNext]

theorem returnFromInterrupt_of_no_address (h : popStack s = none) :
    returnFromInterrupt s = .fault (.stackUnderflow s.pc) := by
  simp only [returnFromInterrupt, h]

theorem returnFromInterrupt_of_no_srcReg (hpop : popStack s ≠ none) (h : s.srcReg = none) :
    returnFromInterrupt s = .fault (.ioBeforeSrc s.pc) := by
  obtain ⟨⟨a, st⟩, hpop⟩ := Option.ne_none_iff_exists'.mp hpop
  simp only [returnFromInterrupt, hpop, h]

/-- Settles O34: each operation looks at its latch first; BBS at SRCREG once the stack has given an address. -/
theorem ioBeforeSrcStops : Obligations.IoBeforeSrcStops := fun s => by
  refine ⟨fun hsel => ⟨fun op => ?_, fun op => ?_⟩, fun hrom => ⟨exec_wrr_of_unset hrom, exec_rdr_of_unset hrom⟩,
    fun h4040 hpop hsrc => ?_, fun h4040 hpop => ?_⟩
  · rw [exec_writeInstr, ramWrite_of_unset hsel]
    rfl
  · rw [exec_readInstr, ramRead_of_unset hsel]
  · rw [exec_bbs_of_c4040 h4040, returnFromInterrupt_of_no_srcReg hpop hsrc]
  · rw [exec_bbs_of_c4040 h4040, returnFromInterrupt_of_no_address hpop]

end

/-! ### A 4002 -/

section
open Sys2Proof.Machine

/-- The write code of status character `n` (R197, R198, R200, R201). -/
def statusWrite (n : BitVec 2) : WriteOp :=
  if n = 0#2 then .wr0 else if n = 1#2 then .wr1 else if n = 2#2 then .wr2 else .wr3

theorem statusWrite_instr (n : BitVec 2) :
    (statusWrite n).instr = if n = 0#2 then .wr0 else if n = 1#2 then .wr1 else if n = 2#2 then .wr2 else .wr3 := by
  revert n; decide

theorem ram4002Write_statusWrite (m : Memory) (b : BankNo) (a : Byte) (n : BitVec 2) (v : Nibble) :
    ram4002Write m b a (statusWrite n) v = { m with ramst := writeCell m.ramst (ramstKey b a n) v } := by
  have numbers : ∀ n : BitVec 2, n = 0#2 ∨ n = 1#2 ∨ n = 2#2 ∨ n = 3#2 := by decide
  obtain rfl | rfl | rfl | rfl := numbers n <;> rfl

section Selection
variable {s : State} {a : Byte} (h : Selected s a .ram4002)
include h

theorem exec_writeInstr_of_ram4002 (op : WriteOp) :
    exec op.instr s = .next (advance 1 (s.setMem (ram4002Write s.mem (bankOf s.cr) a op s.acc))) := by
  obtain ⟨hsel, htarget⟩ := h
  rw [exec_writeInstr]
  simp only [ramWrite, hsel, htarget, onNext]

theorem exec_readInstr_of_ram4002 (op : ReadOp) :
    exec op.instr s = .next (receive op ((ram4002Read s.mem (bankOf s.cr) a op).getD (drawNow s .received)) s) := by
  obtain ⟨hsel, htarget⟩ := h
  rw [exec_readInstr]
  simp only [ramRead, hsel, htarget]

theorem exec_statusWrite_of_ram4002 (n : BitVec 2) :
    exec (if n = 0#2 then .wr0 else if n = 1#2 then .wr1 else if n = 2#2 then .wr2 else .wr3) s =
      .next (advance 1 (s.setMem { s.mem with ramst := writeCell s.mem.ramst (ramstKey (bankOf s.cr) a n) s.acc })) := by
  rw [← statusWrite_instr, exec_writeInstr_of_ram4002 h, ram4002Write_statusWrite]

end Selection

/-- Settles O35: each write code writes one cell of one memory. -/
theorem writesToRamChip : Obligations.WritesToRamChip := fun _ _ h =>
  ⟨⟨_, exec_writeInstr_of_ram4002 h .wrm, readCell_writeCell_same _ _ _,
      fun _ hk => readCell_writeCell_ne _ _ _ _ hk.symm, rfl⟩,
    ⟨_, exec_writeInstr_of_ram4002 h .wmp, readCell_writeCell_same _ _ _,
      fun _ hk => readCell_writeCell_ne _ _ _ _ hk.symm, rfl⟩,
    fun n => ⟨_, exec_statusWrite_of_ram4002 h n, readCell_writeCell_same _ _ _,
      fun _ hk => readCell_writeCell_ne _ _ _ _ hk.symm, rfl⟩⟩

/-- Settles O36: the value received is the cell that the read code names, where it has been written. -/
theorem readsFromRamChip : Obligations.ReadsFromRamChip := fun s a op h => by
  refine ⟨_, exec_readInstr_of_ram4002 h op, ?_, ?_, ?_, ?_, ?_⟩
  · rintro (rfl | rfl | rfl) x hx <;> exact congrArg (Option.getD · _) hx
  all_goals
    rintro rfl x hx
    exact congrArg (Option.getD · _) hx

end

/-! ### A ROM port -/

section
open Sys2Proof.Machine
variable {s : State} {a : Byte}

theorem romPort_of_latch (h : look (w := 1) s.romSel (romBank s) = some a) : romPort s = some (upper a) :=
  congrArg (Option.map upper) h

section Port
variable {n : Nibble} (h : romPort s = some n)
include h

theorem exec_wrr_of_present (hp : romPortPresent s.plat (romBank s) n = true) :
    exec .wrr s = .next (advance 1
      (s.setMem { s.mem with romport := writeCell s.mem.romport (romportKey (romBank s) n) s.acc })) := by
  simp only [exec, execWrr, romWrite, h, hp, if_true, onNext]

theorem exec_wrr_of_absent (hp : romPortPresent s.plat (romBank s) n = false) : exec .wrr s = .next (advance 1 s) := by
  simp only [exec, execWrr, romWrite, h, hp, Bool.false_eq_true, if_false, onNext]

theorem exec_rdr_of_present (hp : romPortPresent s.plat (romBank s) n = true) :
    exec .rdr s = .next (advance 1 (s.setAcc (portIn s))) := by
  simp only [exec, execRdr, romRead, h, hp, if_true, onNext]

theorem exec_rdr_of_absent (hp : romPortPresent s.plat (romBank s) n = false) :
    exec .rdr s = .next (advance 1 (s.setAcc (drawNow s .received))) := by
  simp only [exec, execRdr, romRead, h, hp, Bool.false_eq_true, if_false, onNext]

end Port

/-- Settles O39: the latch names the port; a port that is present takes the write and gives its lines. -/
theorem romPorts : Obligations.RomPorts := fun s a hlatch => by
  have port := romPort_of_latch hlatch
  exact ⟨fun hpresent => ⟨⟨_, exec_wrr_of_present port hpresent, readCell_writeCell_same _ _ _,
      fun _ hk => readCell_writeCell_ne _ _ _ _ hk.symm, rfl⟩, exec_rdr_of_present port hpresent⟩,
    fun habsent => ⟨exec_wrr_of_absent port habsent, _, exec_rdr_of_absent port habsent⟩⟩

end

/-! ### The data RAM banks that CR does not designate -/

section
open Sys2Proof.Machine

/-- What belongs to data RAM bank `b` is in `t` as in `s`: its latch, its devices, its characters, status characters and ports. -/
structure BankKept (b : BankNo) (s t : State) : Prop where
  sel : look (w := 3) t.sel b = look (w := 3) s.sel b
  kd : look (w := 3) t.kd b = look (w := 3) s.kd b
  io : ∀ h, ioAt t b h = ioAt s b h
  ramch : ∀ a, readCell t.mem.ramch (ramchKey b a) = readCell s.mem.ramch (ramchKey b a)
  ramst : ∀ a k, readCell t.mem.ramst (ramstKey b a k) = readCell s.mem.ramst (ramstKey b a k)
  ramport : ∀ a, readCell t.mem.ramport (ramportKey b a) = readCell s.mem.ramport (ramportKey b a)

/-- The parts of the state that are divided into data RAM banks. -/
def bankedParts : List Part := [.sel, .kd, .io, .ramch, .ramst, .ramport]

theorem BankKept.refl (b : BankNo) (s : State) : BankKept b s s :=
  ⟨rfl, rfl, fun _ => rfl, fun _ => rfl, fun _ _ => rfl, fun _ => rfl⟩

theorem BankKept.trans {b : BankNo} {s t u : State} (h : BankKept b s t) (h' : BankKept b t u) : BankKept b s u where
  sel := h'.sel.trans h.sel
  kd := h'.kd.trans h.kd
  io g := (h'.io g).trans (h.io g)
  ramch a := (h'.ramch a).trans (h.ramch a)
  ramst a k := (h'.ramst a k).trans (h.ramst a k)
  ramport a := (h'.ramport a).trans (h.ramport a)

/-- A change of other parts keeps every bank. -/
theorem bankKept_of_changesOnly {ps : List Part} {s t : State} (h : ChangesOnly ps s t) (hps : ps.Disjoint bankedParts)
    (b : BankNo) : BankKept b s t := by
  have same (p : Part) (hp : p ∈ bankedParts) : p.Same s t := h p fun hmem => hps hmem hp
  have hsel : t.sel = s.sel := same .sel (by simp [bankedParts])
  have hkd : t.kd = s.kd := same .kd (by simp [bankedParts])
  have hio : t.io = s.io := same .io (by simp [bankedParts])
  have hramch : t.mem.ramch = s.mem.ramch := same .ramch (by simp [bankedParts])
  have hramst : t.mem.ramst = s.mem.ramst := same .ramst (by simp [bankedParts])
  have hramport : t.mem.ramport = s.mem.ramport := same .ramport (by simp [bankedParts])
  exact ⟨by rw [hsel], by rw [hkd], fun g => by rw [ioAt, ioAt, hio], fun a => by rw [hramch], fun a k => by rw [hramst],
    fun a => by rw [hramport]⟩

theorem advance_bankKept (n : Nat) (s : State) (b : BankNo) : BankKept b s (advance n s) :=
  bankKept_of_changesOnly (advance_changesOnly s n) (List.disjoint_nil_left _) b

/-! One rule for each operation on a bank: it keeps the others. -/

section OtherBank
variable {s : State} {b c : BankNo} (h : b ≠ c)
include h

theorem setKdAt_bankKept (k : Kd4269) : BankKept b s (setKdAt s c k) :=
  { BankKept.refl b s with kd := look_put_ne (w := 3) _ _ _ _ h.symm }

theorem setIoAt_bankKept (high : Bit) (d : Io4265) : BankKept b s (setIoAt s c high d) :=
  { BankKept.refl b s with
    io := fun _ => look_put_ne (w := 4) _ _ _ _ fun hindex =>
      have ⟨hbank, _⟩ := ioIndex_inj.mp hindex
      h hbank.symm }

theorem ram4002Write_bankKept (a : Byte) (op : WriteOp) (v : Nibble) :
    BankKept b s (s.setMem (ram4002Write s.mem c a op v)) := by
  cases op with
  | wrm =>
    exact { BankKept.refl b s with
      ramch := fun _ => readCell_writeCell_ne _ _ _ _ fun hkey =>
        have ⟨hbank, _⟩ := ramchKey_inj.mp hkey
        h hbank.symm }
  | wmp =>
    exact { BankKept.refl b s with
      ramport := fun _ => readCell_writeCell_ne _ _ _ _ fun hkey =>
        have ⟨hbank, _⟩ := ramportKey_inj.mp hkey
        h hbank.symm }
  | wr0 | wr1 | wr2 | wr3 =>
    exact { BankKept.refl b s with
      ramst := fun _ _ => readCell_writeCell_ne _ _ _ _ fun hkey =>
        have ⟨hbank, _⟩ := ramstKey_inj.mp hkey
        h hbank.symm }

end OtherBank

section NotDesignated
variable {s t : State} {b : BankNo} (h : b ≠ bankOf s.cr)
include h

theorem latchSelection_bankKept (a : Byte) : BankKept b s (latchSelection s a) :=
  { BankKept.refl b s with sel := look_put_ne (w := 3) _ _ _ _ h.symm }

theorem sendSrc_bankKept {a : Byte} (ht : sendSrc s a = .next t) : BankKept b s t := by
  have latched := latchSelection_bankKept h a
  obtain rfl | rfl | ⟨high, rfl⟩ := sendSrc_eq_next ht
  · exact latched
  · exact latched.trans (setKdAt_bankKept h _)
  · exact latched.trans (setIoAt_bankKept h high _)

theorem returnFromInterrupt_bankKept (ht : returnFromInterrupt s = .next t) : BankKept b s t := by
  obtain ⟨a, st, r, u, -, -, hsend, rfl⟩ := returnFromInterrupt_eq_next ht
  have returned := ((setStack_changesOnly u st).trans (setPc_changesOnly _ a)).trans (setInService_changesOnly _ false)
  exact (sendSrc_bankKept h hsend).trans (bankKept_of_changesOnly returned (by simp [bankedParts]) b)

theorem ramWrite_bankKept {op : WriteOp} (ht : ramWrite op s = .next t) : BankKept b s t := by
  obtain ⟨a, -, ⟨-, rfl⟩ | ⟨-, rfl⟩ | ⟨k, -, -, rfl⟩ | ⟨high, d, -, -, rfl⟩⟩ := ramWrite_eq_next ht
  · exact .refl b _
  · exact ram4002Write_bankKept h a op _
  · exact setKdAt_bankKept h k
  · exact setIoAt_bankKept h high d

theorem execRead_bankKept {op : ReadOp} (ht : ramRead op s (fun m u => advance 1 (u.setAcc m)) = .next t) :
    BankKept b s t := by
  have received (v : Nibble) (u : State) : BankKept b u (advance 1 (u.setAcc v)) :=
    bankKept_of_changesOnly ((setAcc_changesOnly u v).trans (advance_changesOnly _ 1)) (by simp [bankedParts]) b
  obtain ⟨a, -, ⟨-, rfl⟩ | ⟨-, rfl⟩ | ⟨v, k, -, -, rfl⟩ | ⟨high, v, -, -, rfl⟩⟩ := ramRead_eq_next ht
  · exact received _ s
  · exact received _ s
  · exact (setKdAt_bankKept h k).trans (received v _)
  · exact received v s

theorem execSrc_bankKept {p : PairNo} (ht : exec (.src p) s = .next t) : BankKept b s t := by
  rw [exec_src] at ht
  obtain ⟨u, hsend, rfl⟩ := onNext_eq_next.mp ht
  have kept := bankKept_of_changesOnly (setSrcReg_changesOnly s (srcRegAfterSrc s (pair s p))) (by simp [bankedParts]) b
  exact (kept.trans (sendSrc_bankKept (by exact h) hsend)).trans (advance_bankKept 1 u b)

theorem execWrite_bankKept {op : WriteOp} (ht : onNext (ramWrite op s) (advance 1) = .next t) : BankKept b s t := by
  obtain ⟨u, hwrite, rfl⟩ := onNext_eq_next.mp ht
  exact (ramWrite_bankKept h hwrite).trans (advance_bankKept 1 u b)

/-- An instruction keeps the banks that CR does not designate: those that reach a bank reach that of CR, and the others change
nothing that belongs to a bank. -/
theorem exec_bankKept (i : Instr) (ht : exec i s = .next t) : BankKept b s t := by
  cases i with
  | src => exact execSrc_bankKept h ht
  | bbs =>
    obtain ⟨-, hret⟩ := on4040_eq_next.mp ht
    exact returnFromInterrupt_bankKept h hret
  | wrm | wmp | wr0 | wr1 | wr2 | wr3 => exact execWrite_bankKept h ht
  | rdm | rd2 => exact execRead_bankKept h ht
  | _ => exact bankKept_of_changesOnly ((exec_changesOnly _ s).changesOnly ht) (by simp [mayChange, bankedParts]) b

end NotDesignated

/-- Settles O40: every instruction keeps such a bank. -/
theorem otherRamBanksUntouched : Obligations.OtherRamBanksUntouched := fun i _ _ _ ht hb =>
  have ⟨hsel, hkd, hio, hramch, hramst, hramport⟩ := exec_bankKept hb i ht
  ⟨hsel, hkd, hio, fun a => ⟨hramch a, hramst a, hramport a⟩⟩

end
end Sys2Proof.Proofs

/-! PROOFS of the family 44_4269_io: the display registers and the pointer of a 4269, its modes and clears, its keyboard FIFO and
sensor groups, what it makes of a SRC address, and the codes that its tables have no row for. -/

/-! ### A write or read code at a selected 4269 -/

namespace Sys2Proof.Proofs

section
open Sys2Proof.Machine
variable {s : State} {a : Byte} (h : Selected s a .dev4269)
include h

/-- A write code that the 4269 takes: the device is as written, and nothing else but the program counter changes (R191, R210). -/
theorem exec_writeInstr_of_dev4269 {op : WriteOp} {k : Kd4269}
    (hk : kdWrite s.plat.fifoDepth s.clock op s.acc (kdNow s) = some k) :
    ∃ t, exec op.instr s = .next t ∧ kdNow t = k ∧
      t = { s with kd := put (w := 3) s.kd (bankOf s.cr) (kdNow t), pc := s.pc + 1#12 } := by
  obtain ⟨hsel, htarget⟩ := h
  have written : kdNow (advance 1 (setKdAt s (bankOf s.cr) k)) = k := look_put_same (w := 3) _ _ _
  refine ⟨advance 1 (setKdAt s (bankOf s.cr) k), ?_, written, by rw [written]; rfl⟩
  rw [exec_writeInstr]
  simp only [ramWrite, hsel, htarget, hk, onNext]

/-- A read code that the 4269 answers: the value is received over the device as the read leaves it (R191, R210). -/
theorem exec_readInstr_of_dev4269 {op : ReadOp} {v : Nibble} {k : Kd4269}
    (hk : kdRead op (drawNow s .received) (kdNow s) = some (v, k)) :
    exec op.instr s = .next (receive op v (setKdAt s (bankOf s.cr) k)) := by
  obtain ⟨hsel, htarget⟩ := h
  rw [exec_readInstr]
  simp only [ramRead, hsel, htarget, hk]

/-- A read that leaves the device as it is changes only what the received value changes. -/
theorem exec_readInstr_of_dev4269_kept {op : ReadOp} {v : Nibble}
    (hk : kdRead op (drawNow s .received) (kdNow s) = some (v, kdNow s)) :
    exec op.instr s = .next (receive op v s) := by
  rw [exec_readInstr_of_dev4269 h hk, setKdAt_self]

theorem exec_writeInstr_of_dev4269_none {op : WriteOp}
    (hk : kdWrite s.plat.fifoDepth s.clock op s.acc (kdNow s) = none) :
    exec op.instr s = .fault (.unmodelledDeviceOp s.pc .dev4269 op.code) := by
  obtain ⟨hsel, htarget⟩ := h
  rw [exec_writeInstr]
  simp only [ramWrite, hsel, htarget, hk, onNext]

theorem exec_readInstr_of_dev4269_none {op : ReadOp}
    (hk : kdRead op (drawNow s .received) (kdNow s) = none) :
    exec op.instr s = .fault (.unmodelledDeviceOp s.pc .dev4269 op.code) := by
  obtain ⟨hsel, htarget⟩ := h
  rw [exec_readInstr]
  simp only [ramRead, hsel, htarget, hk]

end

/-! ### The rows of the write and read codes, by the modes in force -/

section
open Sys2Proof.Machine
variable {k : Kd4269} {o : OutMode} {i : InMode} (hm : k.modes = some (o, i)) (depth now : Nat) (v d : Nibble)
include hm

theorem kdWrite_wrm : kdWrite depth now .wrm v k = some (advancePtr o (setDisplayReg k v)) := by
  simp only [kdWrite, hm, Option.map_some]

theorem kdWrite_wmp : kdWrite depth now .wmp v k = some (setDisplayReg k v) := by
  simp only [kdWrite, hm, Option.map_some]

theorem kdWrite_wr1 : kdWrite depth now .wr1 v k = some (kdResetPointer o v k) := by
  simp only [kdWrite, hm, Option.map_some]

theorem kdWrite_wr2 : kdWrite depth now .wr2 v k = kdClearFifo i k := by
  simp only [kdWrite, hm, Option.bind_some]

theorem kdWrite_wr3 : kdWrite depth now .wr3 v k = some (kdClear o now k) := by
  simp only [kdWrite, hm, Option.map_some]

theorem kdRead_rdm : kdRead .rdm d k = some (displayReg k, advancePtr o k) := by
  simp only [kdRead, hm, Option.map_some]

theorem kdRead_rd3 : kdRead .rd3 d k = some (displayReg k, k) := by
  simp only [kdRead, hm, Option.map_some]

theorem kdRead_rd0 : kdRead .rd0 d k = kdReadStatus i d k := by
  simp only [kdRead, hm, Option.bind_some]

theorem kdRead_rd1 : kdRead .rd1 d k = kdReadFirst i d k := by
  simp only [kdRead, hm, Option.bind_some]

theorem kdRead_rd2 : kdRead .rd2 d k = kdReadSecond i d k := by
  simp only [kdRead, hm, Option.bind_some]

end

section
open Sys2Proof.Machine
variable {k : Kd4269} (hm : k.modes = none)
include hm

/-- Before WR0 has set the modes no other write code has a row (R226). -/
theorem kdWrite_of_no_modes {op : WriteOp} (hop : op ≠ .wr0) (depth now : Nat) (v : Nibble) :
    kdWrite depth now op v k = none := by
  cases op with
  | wr0 => exact absurd rfl hop
  | wr2 => simp only [kdWrite, hm, Option.bind_none]
  | wrm | wmp | wr1 | wr3 => simp only [kdWrite, hm, Option.map_none]

/-- Before WR0 has set the modes no read code has a row (R226). -/
theorem kdRead_of_no_modes (op : ReadOp) (d : Nibble) : kdRead op d k = none := by
  cases op with
  | sbm | adm => rfl
  | rdm | rd3 => simp only [kdRead, hm, Option.map_none]
  | rd0 | rd1 | rd2 => simp only [kdRead, hm, Option.bind_none]

end

/-! ### The display register at the pointer -/

section
open Sys2Proof.Machine
variable (k : Kd4269) (v : Nibble)

/-- A write to REG[ptr] changes the register at the pointer and no other (R233, R235). -/
theorem displayReg_setDisplayReg (q : DisplayPtr) :
    displayReg { setDisplayReg k v with ptr := q } = if q = k.ptr then v else displayReg { k with ptr := q } := by
  obtain ⟨side, n⟩ := q
  cases hptr : k.ptr with
  | mk side' n' =>
    cases side <;> cases side' <;>
      simp only [displayReg, setDisplayReg, hptr, look_put (w := 4), eq_comm (a := n'), DisplayPtr.mk.injEq, reduceCtorEq,
        true_and, false_and, if_false]

/-- A write to REG[ptr] changes nothing of the device but the display registers (R233, R235). -/
theorem setDisplayReg_eq :
    setDisplayReg k v = { k with regA := (setDisplayReg k v).regA, regB := (setDisplayReg k v).regB } := by
  unfold setDisplayReg
  split <;> rfl

theorem setDisplayReg_ptr : (setDisplayReg k v).ptr = k.ptr := by rw [setDisplayReg_eq]

theorem displayReg_setDisplayReg_ptr : displayReg { setDisplayReg k v with ptr := k.ptr } = v :=
  (displayReg_setDisplayReg k v k.ptr).trans (if_pos rfl)

theorem displayReg_setDisplayReg_ne {q : DisplayPtr} (hq : q ≠ k.ptr) :
    displayReg { setDisplayReg k v with ptr := q } = displayReg { k with ptr := q } :=
  (displayReg_setDisplayReg k v q).trans (if_neg hq)

/-- Where the pointer goes does not depend on the contents of the display registers (R222). -/
theorem nextPtr_setDisplayReg (o : OutMode) : nextPtr o (setDisplayReg k v) = nextPtr o k := by
  rw [setDisplayReg_eq]
  rfl

variable {k}

/-- In individual mode the pointer goes along its side (R222). -/
theorem nextPtr_individual (h15 : k.ptr.n ≠ 15#4) (hlast : k.ptr.n ≠ lastNumber (displayLength k k.ptr.side)) :
    nextPtr .individual k = { side := k.ptr.side, n := k.ptr.n + 1#4 } := if_neg (not_or.mpr ⟨hlast, h15⟩)

/-- In a gas discharge mode the pointer goes from An to Bn (R222). -/
theorem nextPtr_gas_of_side_a {o : OutMode} (ho : o ≠ .individual) (ha : k.ptr.side = .a) :
    nextPtr o k = { side := .b, n := k.ptr.n } := by
  cases o with
  | individual => exact absurd rfl ho
  | gas20 | gas18 | gas16 => simp only [nextPtr, ha]

/-- In a gas discharge mode the pointer goes from Bn to the A register after it (R222). -/
theorem nextPtr_gas_of_side_b {o : OutMode} (ho : o ≠ .individual) (hb : k.ptr.side = .b) (h15 : k.ptr.n ≠ 15#4) :
    nextPtr o k = { side := .a, n := k.ptr.n + 1#4 } := by
  cases o with
  | individual => exact absurd rfl ho
  | gas20 | gas18 | gas16 => simp only [nextPtr, hb, h15, if_false]

end

section
open Sys2Proof.Machine

/-- Settles O41: WMP writes REG[ptr], RD3 reads it. -/
theorem displayWithoutAdvance : Obligations.DisplayWithoutAdvance := fun s _ _ _ h hm => by
  obtain ⟨t, ht, hkd, hframe⟩ := exec_writeInstr_of_dev4269 h (kdWrite_wmp hm _ _ _)
  refine ⟨⟨t, ht, ?_, fun q hq => ?_, ?_, hframe⟩, exec_readInstr_of_dev4269_kept h (kdRead_rd3 hm _)⟩
  · have written := displayReg_setDisplayReg_ptr (kdNow s) s.acc
    rwa [← setDisplayReg_ptr (kdNow s) s.acc, ← hkd] at written
  · rw [hkd, displayReg_setDisplayReg_ne _ _ hq]
  · rw [hkd]
    exact setDisplayReg_eq _ _

/-- Settles O42: both instructions leave the pointer at `nextPtr`, which looks at no display register. -/
theorem displayWithAdvance : Obligations.DisplayWithAdvance := by
  rintro s _ o _ k h rfl hm
  obtain ⟨t, ht, hkd, hframe⟩ := exec_writeInstr_of_dev4269 h (kdWrite_wrm hm _ _ _)
  rw [advancePtr, nextPtr_setDisplayReg] at hkd
  refine ⟨nextPtr o (kdNow s), ?_, nextPtr_gas_of_side_a, nextPtr_gas_of_side_b,
    exec_readInstr_of_dev4269 h (kdRead_rdm hm _), t, ht, ?_, ?_, fun q hq => ?_, ?_, hframe⟩
  · rintro rfl
    exact nextPtr_individual
  · rw [hkd]
  · rw [hkd]
    exact displayReg_setDisplayReg_ptr _ _
  · rw [hkd]
    exact displayReg_setDisplayReg_ne _ _ hq
  · rw [hkd, setDisplayReg_eq]

end

/-! ### The modes, and the display cleared -/

section
open Sys2Proof.Machine

/-- The four output modes stand in the order of ACC[3:2] (R220). -/
theorem outModeOf_eq (v : Nibble) :
    [OutMode.individual, .gas20, .gas18, .gas16][v.toNat / 4]? = some (outModeOf v) := by
  revert v
  decide

/-- The four input modes stand in the order of ACC[1:0] (R220). -/
theorem inModeOf_eq (v : Nibble) :
    [InMode.sensor, .contact, .encoded, .notUsed][v.toNat % 4]? = some (inModeOf v) := by
  revert v
  decide

theorem kdSetModes_of_same {k : Kd4269} {v : Nibble} (h : k.modes = some (outModeOf v, inModeOf v)) (depth now : Nat) :
    kdSetModes depth now v k = k := if_pos h

/-- WR0 changes the modes, the display registers and the FIFO of a 4269 and nothing else of it (R227, log 20). -/
theorem kdSetModes_eq (depth now : Nat) (v : Nibble) (k : Kd4269) :
    kdSetModes depth now v k = { k with
      modes := some (outModeOf v, inModeOf v)
      regA := (kdSetModes depth now v k).regA
      regB := (kdSetModes depth now v k).regB
      fifo := (kdSetModes depth now v k).fifo } := by
  by_cases same : k.modes = some (outModeOf v, inModeOf v)
  · rw [kdSetModes_of_same same, ← same]
  · simp only [kdSetModes, if_neg same]

/-- Settles O43: the modes are ACC's, by the card's table. -/
theorem keyboardDisplayModes : Obligations.KeyboardDisplayModes := fun s _ h => by
  obtain ⟨t, ht, hkd, hframe⟩ := exec_writeInstr_of_dev4269 h (op := .wr0) rfl
  refine ⟨t, outModeOf s.acc, inModeOf s.acc, ht, outModeOf_eq _, inModeOf_eq _, ?_, fun same => ?_, ?_, hframe⟩
  · rw [hkd, kdSetModes_eq]
  · rw [hkd, kdSetModes_of_same same]
  · rw [hkd]
    exact kdSetModes_eq _ _ _ _

/-- ACC[3] is the eights, ACC[2] the fours (R11). -/
theorem getLsbD_three_iff {v : Nibble} : v.getLsbD 3 = true ↔ 8 ≤ v.toNat := by
  revert v
  decide

theorem getLsbD_two_iff {v : Nibble} : v.getLsbD 2 = true ↔ 4 ≤ v.toNat % 8 := by
  revert v
  decide

/-- WR1 blanks every display register (R231, R232). -/
theorem kdResetPointer_blank (o : OutMode) (v : Nibble) (k : Kd4269) (n : Nibble) :
    look (w := 4) (kdResetPointer o v k).regA n = (Config.blank o).1 ∧
      look (w := 4) (kdResetPointer o v k).regB n = (Config.blank o).2 := by
  cases o <;> exact ⟨look_replicate (w := 4) _ n, look_replicate (w := 4) _ n⟩

/-- WR1 in a gas discharge mode resets the pointer to A0 (R232). -/
theorem kdResetPointer_gas {o : OutMode} (ho : o ≠ .individual) (v : Nibble) (k : Kd4269) :
    kdResetPointer o v k = { blankDisplay o k with ptr := { side := .a, n := 0#4 } } := by
  cases o with
  | individual => exact absurd rfl ho
  | gas20 | gas18 | gas16 => rfl

/-- WR1 in individual mode resets the number of the pointer and takes the lengths from ACC[3:2] (R231). -/
theorem kdResetPointer_individual (v : Nibble) (k : Kd4269) :
    kdResetPointer .individual v k = { blankDisplay .individual k with
      ptr := { k.ptr with n := 0#4 }
      deepB := if 8 ≤ v.toNat then .eight else .sixteen
      deepA := if 4 ≤ v.toNat % 8 then .eight else .sixteen } := by
  simp only [kdResetPointer, getLsbD_three_iff, getLsbD_two_iff]

/-- Settles O44: both instructions blank the display; the rest of the device is as each leaves it. -/
theorem displayClears : Obligations.DisplayClears := by
  rintro s _ o _ k h rfl hm
  obtain ⟨t, ht, hkdt, hframet⟩ := exec_writeInstr_of_dev4269 h (kdWrite_wr3 hm _ _ _)
  obtain ⟨u, hu, hkdu, hframeu⟩ := exec_writeInstr_of_dev4269 h (kdWrite_wr1 hm _ _ _)
  refine ⟨t, u, ht, hu, fun n => ?_, ?_, ?_, ?_, fun ho => ?_, ?_, hframet, hframeu⟩
  · rw [hkdt, hkdu]
    exact ⟨look_replicate (w := 4) _ n, look_replicate (w := 4) _ n, kdResetPointer_blank o _ _ n⟩
  · rw [hkdt]; rfl
  · rw [hkdt]; rfl
  · rw [hkdt]; rfl
  · rw [hkdu, kdResetPointer_gas ho]; rfl
  · rintro rfl
    rw [hkdu, kdResetPointer_individual]; rfl

end

/-! ### The keyboard FIFO and the sensor groups -/

section
open Sys2Proof.Machine

section Keyboard
variable {k : Kd4269} {i : InMode} (hi : i = .contact ∨ i = .encoded) (d : Nibble)
include hi

theorem kdClearFifo_of_keyboard :
    kdClearFifo i k = some { k with fifo := [], statusBuffer := 0#4, intLine := false } := by
  obtain rfl | rfl := hi <;> rfl

theorem kdReadStatus_of_keyboard : kdReadStatus i d k = some (d, k) := by
  obtain rfl | rfl := hi <;> rfl

theorem kdReadFirst_of_empty (hf : k.fifo = []) : kdReadFirst i d k = some (d, k) := by
  obtain rfl | rfl := hi <;> simp only [kdReadFirst, hf]

theorem kdReadSecond_of_empty (hf : k.fifo = []) : kdReadSecond i d k = some (d, k) := by
  obtain rfl | rfl := hi <;> simp only [kdReadSecond, hf]

theorem kdReadFirst_of_cons {e : KeyEntry} {rest : List KeyEntry} (hf : k.fifo = e :: rest) :
    kdReadFirst i d k = some (e.first, k) := by
  obtain rfl | rfl := hi <;> simp only [kdReadFirst, hf]

theorem kdReadSecond_of_cons {e : KeyEntry} {rest : List KeyEntry} (hf : k.fifo = e :: rest) :
    kdReadSecond i d k = some (e.second, { k with fifo := rest }) := by
  obtain rfl | rfl := hi <;> simp only [kdReadSecond, hf]

end Keyboard

/-- Settles O45: RD1 and RD2 by whether the FIFO has an entry, RD0 and WR2 in every case. -/
theorem keyboardFifo : Obligations.KeyboardFifo := by
  rintro s _ _ i k h rfl hm hi
  refine ⟨fun e rest hf => ⟨?_, ?_⟩, fun hf => ⟨⟨drawNow s .received, ?_⟩, drawNow s .received, ?_⟩,
    ⟨drawNow s .received, ?_⟩, ?_⟩
  · exact exec_readInstr_of_dev4269_kept h ((kdRead_rd1 hm _).trans (kdReadFirst_of_cons hi _ hf))
  · exact exec_readInstr_of_dev4269 h ((kdRead_rd2 hm _).trans (kdReadSecond_of_cons hi _ hf))
  · exact exec_readInstr_of_dev4269_kept h ((kdRead_rd1 hm _).trans (kdReadFirst_of_empty hi _ hf))
  · exact exec_readInstr_of_dev4269_kept h ((kdRead_rd2 hm _).trans (kdReadSecond_of_empty hi _ hf))
  · exact exec_readInstr_of_dev4269_kept h ((kdRead_rd0 hm _).trans (kdReadStatus_of_keyboard hi _))
  · obtain ⟨t, ht, hkd, hframe⟩ :=
      exec_writeInstr_of_dev4269 h ((kdWrite_wr2 hm _ _ _).trans (kdClearFifo_of_keyboard hi))
    rw [hkd] at hframe
    exact ht.trans (congrArg _ hframe)

/-- Settles O46: in sensor mode the reads keep the device, and WR2 clears the FIFO and the INT line. -/
theorem sensorGroups : Obligations.SensorGroups := by
  rintro s _ _ k h rfl hm
  refine ⟨?_, ?_, ?_⟩
  · exact exec_readInstr_of_dev4269_kept h (kdRead_rd1 hm _)
  · exact exec_readInstr_of_dev4269_kept h (kdRead_rd2 hm _)
  · obtain ⟨t, ht, hkd, hframe⟩ := exec_writeInstr_of_dev4269 h (kdWrite_wr2 hm _ _ _)
    rw [hkd] at hframe
    exact ht.trans (congrArg _ hframe)

end

/-! ### A SRC address -/

section
open Sys2Proof.Machine
variable {e n : Nibble} {o : OutMode} {k : Kd4269}

theorem kdSrc_of_no_modes {x : Byte} (hm : k.modes = none) : kdSrc x k = k := by simp only [kdSrc, hm]

/-- A SRC address can select a sensor group, and nothing else of the input side (R229). -/
theorem kdSrcInput_eq (i : InMode) (e n : Nibble) (k : Kd4269) :
    kdSrcInput i e n k = { k with sensGroup := if i = .sensor ∧ e = 4#4 then n.extractLsb' 1 3 else k.sensGroup } := by
  cases i with
  | sensor =>
    by_cases he : e = 4#4
    · simp only [kdSrcInput, he, true_and, if_true]
    · simp only [kdSrcInput, he, and_false, if_false]
  | contact | encoded | notUsed => simp only [kdSrcInput, reduceCtorEq, false_and, if_false]

/-- The display side of a SRC address neither looks at the sensor group nor changes it (R229). -/
theorem kdSrcDisplay_sensGroup (o : OutMode) (e n : Nibble) (k : Kd4269) (x : BitVec 3) :
    kdSrcDisplay o e n { k with sensGroup := x } = { kdSrcDisplay o e n k with sensGroup := x } := by
  unfold kdSrcDisplay
  cases o with
  | individual => dsimp only; split <;> rfl
  | gas20 | gas18 | gas16 =>
    dsimp only
    split
    · rfl
    · split <;> rfl
    · rfl

/-- With the modes set a SRC address selects its sensor group and goes to the display side (R229). -/
theorem kdSrc_of_modes {i : InMode} (hm : k.modes = some (o, i)) :
    kdSrc (e ++ n) k = kdSrcDisplay o e n
      { k with sensGroup := if i = .sensor ∧ e = 4#4 then n.extractLsb' 1 3 else k.sensGroup } := by
  have kept : (kdSrcDisplay o e n k).sensGroup = k.sensGroup :=
    (congrArg Kd4269.sensGroup (kdSrcDisplay_sensGroup o e n k k.sensGroup) :)
  have even : upper (e ++ n) = e := upper_joinHalves e n
  have odd : lower (e ++ n) = n := lower_joinHalves e n
  rw [kdSrcDisplay_sensGroup, ← kept, ← kdSrcInput_eq]
  simp only [kdSrc, hm, even, odd]

variable (n k)

/-- In individual mode 4 and 6 point at An and say whether side A is blanked (R229). -/
theorem kdSrcDisplay_individual_side_a (he : e = 4#4 ∨ e = 6#4) :
    kdSrcDisplay .individual e n k = { k with ptr := { side := .a, n := n }, blankA := decide (e = 6#4) } := by
  obtain rfl | rfl := he <;> rfl

/-- In individual mode 5 and 7 point at Bn and say whether side B is blanked (R229). -/
theorem kdSrcDisplay_individual_side_b (he : e = 5#4 ∨ e = 7#4) :
    kdSrcDisplay .individual e n k = { k with ptr := { side := .b, n := n }, blankB := decide (e = 7#4) } := by
  obtain rfl | rfl := he <;> rfl

/-- In a gas discharge mode 4 points at An and unblanks the display (R229). -/
theorem kdSrcDisplay_gas_unblank (ho : o ≠ .individual) :
    kdSrcDisplay o 4#4 n k = { k with ptr := { side := .a, n := n }, displayBlanked := false } := by
  cases o with
  | individual => exact absurd rfl ho
  | gas20 | gas18 | gas16 => rfl

/-- In a gas discharge mode 6 points at An and blanks the display, with or without its registers (R229, log 19). -/
theorem kdSrcDisplay_gas_blank (ho : o ≠ .individual) :
    kdSrcDisplay o 6#4 n k = { k with
      ptr := { side := .a, n := n }, displayBlanked := true
      regA := (kdSrcDisplay o 6#4 n k).regA, regB := (kdSrcDisplay o 6#4 n k).regB } := by
  have blanked : kdSrcDisplay o 6#4 n k =
      { (if Config.gasBlankOverwrites then blankDisplay o k else k) with
        ptr := { side := .a, n := n }, displayBlanked := true } := by
    cases o with
    | individual => exact absurd rfl ho
    | gas20 | gas18 | gas16 => rfl
  rw [blanked]
  split <;> rfl

/-- The table of R229 has no row for an even register outside 4 to 7. -/
theorem kdSrcDisplay_of_out_of_range (o : OutMode) (he : e.toNat < 4 ∨ 7 < e.toNat) : kdSrcDisplay o e n k = k := by
  unfold kdSrcDisplay
  cases o with
  | individual =>
    dsimp only
    split
    case h_5 => rfl
    all_goals omega
  | gas20 | gas18 | gas16 =>
    dsimp only
    split
    case h_3 => rfl
    all_goals omega

/-- The gas discharge modes have no row for 5 and 7 (R229). -/
theorem kdSrcDisplay_gas_of_odd (ho : o ≠ .individual) (he : e = 5#4 ∨ e = 7#4) : kdSrcDisplay o e n k = k := by
  cases o with
  | individual => exact absurd rfl ho
  | gas20 | gas18 | gas16 => obtain rfl | rfl := he <;> rfl

end

section
open Sys2Proof.Machine

/-- Settles O47: the sensor group and the display side, row by row. -/
theorem srcOnKeyboardDisplay : Obligations.SrcOnKeyboardDisplay := by
  refine ⟨fun _ _ hm => kdSrc_of_no_modes hm, ?_⟩
  rintro e n o i k g hm hg
  have src : kdSrc (e ++ n) k = kdSrcDisplay o e n g := hg ▸ kdSrc_of_modes hm
  rw [src]
  refine ⟨?_, ?_, ?_, ?_, fun he => ?_⟩
  · rintro rfl he
    exact kdSrcDisplay_individual_side_a n g he
  · rintro rfl he
    exact kdSrcDisplay_individual_side_b n g he
  · rintro ho rfl
    exact kdSrcDisplay_gas_unblank n g ho
  · rintro ho rfl
    exact kdSrcDisplay_gas_blank n g ho
  · have unchanged : kdSrcDisplay o e n g = g := by
      obtain hlow | hhigh | ⟨ho, hodd⟩ := he
      · exact kdSrcDisplay_of_out_of_range n g o (.inl hlow)
      · exact kdSrcDisplay_of_out_of_range n g o (.inr hhigh)
      · exact kdSrcDisplay_gas_of_odd n g ho hodd
    have no_group : ¬ (i = .sensor ∧ e = 4#4) := by
      rintro ⟨-, rfl⟩
      simp at he
    rw [unchanged, hg, if_neg no_group]

end

/-! ### The codes without a row -/

section
open Sys2Proof.Machine

/-- Settles O48: where `kdWrite` or `kdRead` has no row the instruction stops by name. -/
theorem keyboardDisplayStops : Obligations.KeyboardDisplayStops := fun _ _ h =>
  ⟨fun hm => ⟨fun _ hop => exec_writeInstr_of_dev4269_none h (kdWrite_of_no_modes hm hop _ _ _),
      fun op => exec_readInstr_of_dev4269_none h (kdRead_of_no_modes hm op _)⟩,
    ⟨exec_readInstr_of_dev4269_none h (op := .sbm) rfl, exec_readInstr_of_dev4269_none h (op := .adm) rfl⟩,
    fun _ hm => exec_readInstr_of_dev4269_none h (kdRead_rd0 hm _),
    fun _ hm => ⟨exec_writeInstr_of_dev4269_none h (kdWrite_wr2 hm _ _ _),
      exec_readInstr_of_dev4269_none h (kdRead_rd0 hm _),
      exec_readInstr_of_dev4269_none h (kdRead_rd1 hm _),
      exec_readInstr_of_dev4269_none h (kdRead_rd2 hm _)⟩⟩

end
end Sys2Proof.Proofs

/-! PROOFS of the family 45_4265_io: the mode and the enable of a 4265, the port that each write and read code names, the bit that
WRM sets or resets, and the SRC address on ports W and X. -/

/-! ### A write or read code at a selected 4265 -/

namespace Sys2Proof.Proofs

section
open Sys2Proof.Machine

/-- The state after a write code that a 4265 of the bank takes: its latches, mode and enable as written, and the next address. -/
def afterIoWrite (s : State) (high : Bit) (d : Io4265) : State :=
  { s with io := put (w := 4) s.io (bankOf s.cr ++ high) d, pc := s.pc + 1#12 }

theorem ioAt_afterIoWrite (s : State) (high : Bit) (d : Io4265) : ioAt (afterIoWrite s high d) (bankOf s.cr) high = d :=
  look_put_same (w := 4) _ _ _

/-- What a write code leaves is fixed by what the 4265 then is. -/
theorem afterIoWrite_eq (s : State) (high : Bit) (d : Io4265) :
    afterIoWrite s high d = { s with
      io := put (w := 4) s.io (bankOf s.cr ++ high) (ioAt (afterIoWrite s high d) (bankOf s.cr) high), pc := s.pc + 1#12 } := by
  rw [ioAt_afterIoWrite]
  rfl

section Selection
variable {s : State} {a : Byte} {high : Bit} {d : Io4265} (h : Selected s a (.dev4265 high))
  (hd : d = ioAt s (bankOf s.cr) high)
include h hd

theorem exec_writeInstr_of_dev4265 {op : WriteOp} {d' : Io4265} (hw : ioWrite op s.acc d = some d') :
    exec op.instr s = .next (afterIoWrite s high d') := by
  obtain ⟨hsel, htarget⟩ := h
  rw [exec_writeInstr]
  simp only [ramWrite, hsel, htarget, ← hd, hw, onNext]
  rfl

theorem exec_writeInstr_of_dev4265_none {op : WriteOp} (hw : ioWrite op s.acc d = none) :
    exec op.instr s = .fault (.unmodelledDeviceOp s.pc .dev4265 op.code) := by
  obtain ⟨hsel, htarget⟩ := h
  rw [exec_writeInstr]
  simp only [ramWrite, hsel, htarget, ← hd, hw, onNext]

/-- A read code leaves the device as it is: only what the received value changes is changed (R263). -/
theorem exec_readInstr_of_dev4265 {op : ReadOp} {v : Nibble} (hr : ioRead op (portIn s) (drawNow s .received) d = some v) :
    exec op.instr s = .next (receive op v s) := by
  obtain ⟨hsel, htarget⟩ := h
  rw [exec_readInstr]
  simp only [ramRead, hsel, htarget, ← hd, hr]

theorem exec_readInstr_of_dev4265_none {op : ReadOp} (hr : ioRead op (portIn s) (drawNow s .received) d = none) :
    exec op.instr s = .fault (.unmodelledDeviceOp s.pc .dev4265 op.code) := by
  obtain ⟨hsel, htarget⟩ := h
  rw [exec_readInstr]
  simp only [ramRead, hsel, htarget, ← hd, hr]

end Selection

end

/-! ### The mode groups, the directions and the latches -/

section
open Sys2Proof.Machine
variable {m : Fin 14}

/-- The columns of R254: modes 1 to 3; modes 0 and 4 to 11; modes 12 and 13. -/
theorem modeGroup_of_one_to_three (h : m.val = 1 ∨ m.val = 2 ∨ m.val = 3) : modeGroup m = .g1 := by
  revert m
  decide

theorem modeGroup_of_zero_or_four_to_eleven (h : m.val = 0 ∨ (4 ≤ m.val ∧ m.val ≤ 11)) : modeGroup m = .g0 := by
  revert m
  decide

theorem modeGroup_of_twelve_or_thirteen (h : m.val = 12 ∨ m.val = 13) : modeGroup m = .g12 := by
  revert m
  decide

theorem portDirection_of_forced {p : Port} (h : forcedOutput m p = true) : portDirection m p = .output := if_pos h

/-- Where the card's table does not settle the direction it is the open one (R268, log 17). -/
theorem portDirection_of_not_forced {p : Port} (h : forcedOutput m p = false) : portDirection m p = Config.dir4265 m p :=
  if_neg (Bool.eq_false_iff.mp h)

theorem forcedOutput_of_g0 (h : modeGroup m = .g0) (p : Port) : forcedOutput m p = false := by
  simp only [forcedOutput, h]

theorem forcedOutput_of_g1 (h : modeGroup m = .g1) : forcedOutput m .w = true ∧ forcedOutput m .x = true := by
  simp only [forcedOutput, h, and_self]

theorem forcedOutput_of_g12 (h : modeGroup m = .g12) :
    forcedOutput m .w = true ∧ forcedOutput m .x = true ∧ forcedOutput m .y = true := by
  simp only [forcedOutput, h, and_self]

theorem forcedOutput_y_of_g1 (h : modeGroup m = .g1) : forcedOutput m .y = false := by
  simp only [forcedOutput, h]

variable {d : Io4265}

/-- A disabled port keeps its latch (R251, log 26). -/
theorem setPort_of_disabled (h : d.enabled = false) (p : Port) (v : Nibble) : setPort d p v = d :=
  if_neg (Bool.eq_false_iff.mp h)

section Enabled
variable (h : d.enabled = true) (v : Nibble)
include h

theorem setPort_w : setPort d .w v = { d with outW := v } := if_pos h

theorem setPort_x : setPort d .x v = { d with outX := v } := if_pos h

theorem setPort_y : setPort d .y v = { d with outY := v } := if_pos h

theorem setPort_z : setPort d .z v = { d with outZ := v } := if_pos h

/-- Each port has its own latch (R252). -/
theorem portLatch_setPort (p q : Port) : portLatch (setPort d p v) q = if q = p then v else portLatch d q := by
  cases p with
  | w => rw [setPort_w h]; cases q <;> rfl
  | x => rw [setPort_x h]; cases q <;> rfl
  | y => rw [setPort_y h]; cases q <;> rfl
  | z => rw [setPort_z h]; cases q <;> rfl

end Enabled

/-- Note 1 of the card (R268). -/
theorem setOutputPort_eq (m : Fin 14) (d : Io4265) (p : Port) (v : Nibble) :
    setOutputPort m d p v = if portDirection m p = .output then setPort d p v else d := by
  unfold setOutputPort
  cases portDirection m p <;> rfl

theorem setOutputPort_of_not_forced {p : Port} (h : forcedOutput m p = false) (d : Io4265) (v : Nibble) :
    setOutputPort m d p v = if Config.dir4265 m p = .output then setPort d p v else d := by
  rw [setOutputPort_eq, portDirection_of_not_forced h]

theorem setOutputPort_of_disabled (h : d.enabled = false) (m : Fin 14) (p : Port) (v : Nibble) :
    setOutputPort m d p v = d := by
  rw [setOutputPort_eq, setPort_of_disabled h, ite_self]

end

/-! ### The mode and the enable -/

section
open Sys2Proof.Machine
variable {v : Nibble} {d : Io4265}

theorem ioCommand_of_mode (h : v.toNat < 14) (d : Io4265) : ioCommand v d = some { d with mode := some ⟨v.toNat, h⟩ } := dif_pos h

/-- 1110 and 1111 need a mode that is set (R253, log 25). -/
theorem ioCommand_of_no_mode (h : 14 ≤ v.toNat) (hm : d.mode = none) : ioCommand v d = none := by
  rw [ioCommand, dif_neg (Nat.not_lt.mpr h), if_pos hm]

theorem ioCommand_disable (hm : d.mode ≠ none) : ioCommand 14#4 d = some { d with enabled := false } := by
  simp [ioCommand, hm]

theorem ioCommand_enable (hm : d.mode ≠ none) : ioCommand 15#4 d = some { d with enabled := true } := by
  simp [ioCommand, hm]

/-- Before a mode is set no write code but WMP has a meaning (R253). -/
theorem ioWrite_of_no_mode (hm : d.mode = none) {op : WriteOp} (hop : op ≠ .wmp) (v : Nibble) : ioWrite op v d = none := by
  cases op with
  | wmp => exact absurd rfl hop
  | wrm | wr0 | wr1 | wr2 | wr3 => simp only [ioWrite, hm, Option.map_none]

theorem ioRead_of_no_mode (hm : d.mode = none) (op : ReadOp) (lines free : Nibble) : ioRead op lines free d = none := by
  simp only [ioRead, hm, Option.map_none]

/-- Settles O49: WMP by what ACC is, the other codes by whether a mode is set. -/
theorem ioDeviceMode : Obligations.IoDeviceMode := fun s _ _ d h hd => by
  refine ⟨fun lt => ?_, fun hm hacc => ?_, fun hm hacc => ?_, fun hm => ⟨fun hacc => ?_, fun op hop => ?_, fun op => ?_⟩⟩
  · exact exec_writeInstr_of_dev4265 h hd (op := .wmp) (ioCommand_of_mode lt d)
  · exact exec_writeInstr_of_dev4265 h hd (op := .wmp) (hacc ▸ ioCommand_disable hm)
  · exact exec_writeInstr_of_dev4265 h hd (op := .wmp) (hacc ▸ ioCommand_enable hm)
  · exact exec_writeInstr_of_dev4265_none h hd (op := .wmp) (ioCommand_of_no_mode hacc hm)
  · exact exec_writeInstr_of_dev4265_none h hd (ioWrite_of_no_mode hm hop _)
  · exact exec_readInstr_of_dev4265_none h hd (ioRead_of_no_mode hm op _ _)

end

/-! ### The rows of the write codes -/

section
open Sys2Proof.Machine
variable {d : Io4265} {m : Fin 14}

section Rows
variable (hm : d.mode = some m) (v : Nibble)
include hm

theorem ioWrite_wrm : ioWrite .wrm v d = some (ioSetBit m v d) := by simp only [ioWrite, hm, Option.map_some]

theorem ioWrite_wr0 : ioWrite .wr0 v d = some (ioWr0 m v d) := by simp only [ioWrite, hm, Option.map_some]

theorem ioWrite_wr1 : ioWrite .wr1 v d = some (ioWr1 m v d) := by simp only [ioWrite, hm, Option.map_some]

theorem ioWrite_wr2 : ioWrite .wr2 v d = some (ioWr2 m v d) := by simp only [ioWrite, hm, Option.map_some]

theorem ioWrite_wr3 : ioWrite .wr3 v d = some (ioWr3 m v d) := by simp only [ioWrite, hm, Option.map_some]

end Rows

/-- WR0 to WR3 in modes 1 to 3 (R259 to R262). -/
theorem ioWr_of_g1 (h : modeGroup m = .g1) (v : Nibble) (d : Io4265) :
    ioWr0 m v d = setPort d .w v ∧ ioWr1 m v d = setPort d .x v ∧ ioWr2 m v d = setOutputPort m d .y v ∧ ioWr3 m v d = d := by
  simp only [ioWr0, ioWr1, ioWr2, ioWr3, h, and_self]

/-- WR0 to WR3 in modes 0 and 4 to 11 (R259 to R262). -/
theorem ioWr_of_g0 (h : modeGroup m = .g0) (v : Nibble) (d : Io4265) :
    ioWr0 m v d = setOutputPort m d .w v ∧ ioWr1 m v d = setOutputPort m d .x v ∧
      ioWr2 m v d = setOutputPort m d .y v ∧ ioWr3 m v d = setOutputPort m d .z v := by
  simp only [ioWr0, ioWr1, ioWr2, ioWr3, h, and_self]

/-- WR0 to WR3 in modes 12 and 13 (R259 to R262). -/
theorem ioWr_of_g12 (h : modeGroup m = .g12) (v : Nibble) (d : Io4265) :
    ioWr0 m v d = setPort d .y v ∧ ioWr1 m v d = setPort d .y v ∧ ioWr2 m v d = setPort d .y v ∧ ioWr3 m v d = setPort d .y v := by
  simp only [ioWr0, ioWr1, ioWr2, ioWr3, h, and_self]

/-- Settles O50: the four instructions complete, and the mode group says which port each one writes. -/
theorem ioDeviceWrites : Obligations.IoDeviceWrites := fun s _ _ d _ h hd hm he => by
  refine ⟨_, _, _, _, exec_writeInstr_of_dev4265 h hd (ioWrite_wr0 hm _), exec_writeInstr_of_dev4265 h hd (ioWrite_wr1 hm _),
    exec_writeInstr_of_dev4265 h hd (ioWrite_wr2 hm _), exec_writeInstr_of_dev4265 h hd (ioWrite_wr3 hm _), ?_⟩
  simp only [ioAt_afterIoWrite]
  refine ⟨fun modes => ?_, fun modes => ?_, fun modes => ?_, ?_⟩
  · have hg := modeGroup_of_one_to_three modes
    obtain ⟨wr0, wr1, wr2, wr3⟩ := ioWr_of_g1 hg s.acc d
    rw [setOutputPort_of_not_forced (forcedOutput_y_of_g1 hg), setPort_y he] at wr2
    exact ⟨wr0.trans (setPort_w he _), wr1.trans (setPort_x he _), wr2, wr3⟩
  · have hg := modeGroup_of_zero_or_four_to_eleven modes
    have row := ioWr_of_g0 hg s.acc d
    simpa only [setOutputPort_of_not_forced (forcedOutput_of_g0 hg _), setPort_w he, setPort_x he, setPort_y he, setPort_z he]
      using row
  · have row := ioWr_of_g12 (modeGroup_of_twelve_or_thirteen modes) s.acc d
    rwa [setPort_y he] at row
  · simp only [List.forall_mem_cons]
    exact ⟨afterIoWrite_eq _ _ _, afterIoWrite_eq _ _ _, afterIoWrite_eq _ _ _, afterIoWrite_eq _ _ _, List.forall_mem_nil _⟩

end

/-! ### The bit that WRM sets or resets -/

section
open Sys2Proof.Machine

/-- The number, of the eight, of a bit of port Y (0 to 3) or Z (4 to 7), in the numbering of log 17. -/
def bitNumber (p : Port) (j : BitVec 2) : BitVec 3 := (if p = .z then 1#1 else 0#1) ++ j

theorem bitTarget_port (n : BitVec 3) : (bitTarget n).1 = .y ∨ (bitTarget n).1 = .z := by
  unfold bitTarget
  dsimp only
  split
  · exact .inr rfl
  · exact .inl rfl

/-- The numbering names each bit of port Y or Z once. -/
theorem bit_eq_iff_bitNumber {p : Port} (hp : p = .y ∨ p = .z) (j : BitVec 2) (t : BitVec 3) :
    ((if t.getLsbD 2 then Port.z else .y), t.extractLsb' 0 2) = (p, j) ↔ t = bitNumber p j := by
  obtain rfl | rfl := hp <;> revert j t <;> decide

/-- The open order is a permutation of the numbering (R257, log 17). -/
theorem bitTarget_eq_iff {p : Port} (hp : p = .y ∨ p = .z) (j : BitVec 2) (n : BitVec 3) :
    bitTarget n = (p, j) ↔ n = Config.bitTarget4265.symm (bitNumber p j) :=
  (bit_eq_iff_bitNumber hp j _).trans (Equiv.eq_symm_apply _).symm

/-- The mask that `setBit` uses has the one bit. -/
theorem getLsbD_bitMask (i : BitVec 2) (n : Nat) : (1#4 <<< i.toNat).getLsbD n = decide (n = i.toNat) := by
  have inNibble : i.toNat < 4 := i.isLt
  simp only [← BitVec.twoPow_eq, BitVec.getLsbD_twoPow, decide_eq_true inNibble, Bool.true_and, eq_comm]

theorem getLsbD_setBit (x : Nibble) (i : BitVec 2) (b : Bool) (n : Nat) :
    (setBit x i b).getLsbD n = if n = i.toNat then b else x.getLsbD n := by
  cases b with
  | true =>
    simp only [setBit, if_true, BitVec.getLsbD_or, getLsbD_bitMask]
    by_cases hn : n = i.toNat <;> simp [hn]
  | false =>
    simp only [setBit, Bool.false_eq_true, if_false, BitVec.getLsbD_and, BitVec.getLsbD_not, getLsbD_bitMask]
    by_cases hn : n = i.toNat
    · simp [hn]
    · simpa [hn] using BitVec.lt_of_getLsbD

section SetBit
variable {m : Fin 14} {v : Nibble} {d : Io4265} {p : Port} {j : BitVec 2} (ht : (p, j) = bitTarget (v.extractLsb' 1 3))
include ht

theorem ioSetBit_eq : ioSetBit m v d = setOutputPort m d p (setBit (portLatch d p) j (v.getLsbD 0)) := by
  simp only [ioSetBit, ← ht]

theorem ioSetBit_of_no_effect (h : d.enabled = false ∨ portDirection m p = .input) : ioSetBit m v d = d := by
  rw [ioSetBit_eq ht]
  obtain hdisabled | hinput := h
  · exact setOutputPort_of_disabled hdisabled m p _
  · rw [setOutputPort_eq, hinput, if_neg (by decide)]

/-- Where WRM acts it gives the designated bit the value ACC[0] and every other bit of the device what it had (R257). -/
theorem portLatch_ioSetBit (he : d.enabled = true) (ho : portDirection m p = .output) (q : Port) (n : Nat) :
    (portLatch (ioSetBit m v d) q).getLsbD n = if q = p ∧ n = j.toNat then v.getLsbD 0 else (portLatch d q).getLsbD n := by
  rw [ioSetBit_eq ht, setOutputPort_eq, if_pos ho, portLatch_setPort he]
  by_cases hq : q = p
  · subst hq
    simp only [if_true, true_and, getLsbD_setBit]
  · simp only [hq, if_false, false_and]

/-- Whether or not WRM acts, every bit but the designated one is kept. -/
theorem portLatch_ioSetBit_ne {q : Port} {n : Nat} (hne : ¬ (q = p ∧ n = j.toNat)) :
    (portLatch (ioSetBit m v d) q).getLsbD n = (portLatch d q).getLsbD n := by
  by_cases hacts : d.enabled = true ∧ portDirection m p = .output
  · obtain ⟨he, ho⟩ := hacts
    rw [portLatch_ioSetBit ht he ho, if_neg hne]
  · rw [ioSetBit_of_no_effect ht]
    cases he : d.enabled with
    | false => exact .inl rfl
    | true =>
      cases ho : portDirection m p with
      | input => exact .inr rfl
      | output => exact absurd ⟨he, ho⟩ hacts

end SetBit

/-- With the ports disabled no write code but WMP changes the device (R251, log 26). -/
theorem ioWrite_of_disabled {d : Io4265} {m : Fin 14} (hm : d.mode = some m) (he : d.enabled = false) {op : WriteOp}
    (hop : op ≠ .wmp) (v : Nibble) : ioWrite op v d = some d := by
  cases op with
  | wmp => exact absurd rfl hop
  | wrm => rw [ioWrite_wrm hm, ioSetBit_of_no_effect rfl (.inl he)]
  | wr0 | wr1 | wr2 | wr3 =>
    cases hg : modeGroup m <;>
      simp only [ioWrite, hm, Option.map_some, ioWr0, ioWr1, ioWr2, ioWr3, hg, setPort_of_disabled he, setOutputPort_of_disabled he]

/-- Settles O51: the order is a permutation, and WRM writes the latch of the port with one bit replaced. -/
theorem ioDeviceBitSet : Obligations.IoDeviceBitSet := by
  refine ⟨bitTarget_port, fun p j hp => ⟨Config.bitTarget4265.symm (bitNumber p j), (bitTarget_eq_iff hp j _).mpr rfl,
    fun k => (bitTarget_eq_iff hp j k).mp⟩, fun s _ _ _ _ h hd hm => ⟨?_, fun he op hop => ?_⟩⟩
  · have hw := ioWrite_wrm hm s.acc
    obtain ⟨hmode, henabled⟩ := ioWrite_sameSetting (by decide) hw
    refine ⟨_, (bitTarget (s.acc.extractLsb' 1 3)).1, (bitTarget (s.acc.extractLsb' 1 3)).2,
      exec_writeInstr_of_dev4265 h hd hw, rfl, ?_⟩
    simp only [ioAt_afterIoWrite]
    refine ⟨fun he ho => ?_, fun q n hne => portLatch_ioSetBit_ne rfl hne, ioSetBit_of_no_effect rfl, hmode, henabled, rfl⟩
    rw [portLatch_ioSetBit rfl he ho, if_pos ⟨rfl, rfl⟩]
  · exact exec_writeInstr_of_dev4265 h hd (ioWrite_of_disabled hm he hop _)

end

/-! ### The rows of the read codes -/

section
open Sys2Proof.Machine
variable {d : Io4265} {m : Fin 14}

/-- The port of R254 in each row: Y in modes 12 and 13 and for the four codes that name it in every mode. -/
theorem readPortOf_eq (op : ReadOp) (m : Fin 14) :
    readPortOf op (modeGroup m) =
      if op = .rd0 ∧ m.val < 12 then .w else if op = .rd1 ∧ m.val < 12 then .x else if op = .rd3 ∧ m.val < 12 then .z else .y := by
  cases op <;> revert m <;> decide

theorem ioRead_of_enabled (hm : d.mode = some m) (he : d.enabled = true) (op : ReadOp) (lines free : Nibble) :
    ioRead op lines free d = some (if portDirection m (readPortOf op (modeGroup m)) = .input then lines
      else portLatch d (readPortOf op (modeGroup m))) := by
  simp only [ioRead, hm, Option.map_some, readPort, he, if_true]
  cases portDirection m (readPortOf op (modeGroup m)) <;> rfl

theorem ioRead_of_disabled (hm : d.mode = some m) (he : d.enabled = false) (op : ReadOp) (lines free : Nibble) :
    ioRead op lines free d = some free := by
  simp only [ioRead, hm, Option.map_some, readPort, he, Bool.false_eq_true, if_false]

/-- Settles O52: the port is the row's, the value its lines or its latch. -/
theorem ioDeviceReads : Obligations.IoDeviceReads := fun s _ _ _ m op h hd hm =>
  ⟨fun he => ⟨readPortOf op (modeGroup m), readPortOf_eq op m,
      exec_readInstr_of_dev4265 h hd (ioRead_of_enabled hm he op _ _)⟩,
    fun he => ⟨drawNow s .received, exec_readInstr_of_dev4265 h hd (ioRead_of_disabled hm he op _ _)⟩⟩

end

/-! ### The SRC address on ports W and X -/

section
open Sys2Proof.Machine
variable {d : Io4265}

theorem ioSrc_of_not_answersWholeBank (h : answersWholeBank d = false) (x : Byte) : ioSrc x d = d :=
  if_neg (Bool.eq_false_iff.mp h)

/-- With the ports disabled a SRC address reaches no port (R251, log 26). -/
theorem ioSrc_of_disabled (he : d.enabled = false) (x : Byte) : ioSrc x d = d := by
  rw [ioSrc, setPort_of_disabled he, setPort_of_disabled he, ite_self]

/-- The upper half of a SRC address on port W, the lower half on port X (R255). -/
theorem ioSrc_of_answersWholeBank (h : answersWholeBank d = true) (he : d.enabled = true) (x : Byte) :
    ioSrc x d = { d with outW := x.extractLsb' 4 4, outX := x.extractLsb' 0 4 } := by
  rw [ioSrc, if_pos h, setPort_w he, setPort_x (by exact he)]
  rfl

theorem answersWholeBank_eq {m : Fin 14} (hm : d.mode = some m) : answersWholeBank d = decide (12 ≤ m.val) := by
  have groups : ∀ m : Fin 14, (modeGroup m == .g12) = decide (12 ≤ m.val) := by decide
  simp only [answersWholeBank, hm, groups]

/-- Settles O53: the address goes to the ports if the device answers for its whole bank; the directions are the forced ones. -/
theorem srcOnIoDevice : Obligations.SrcOnIoDevice := by
  refine ⟨fun x d => ⟨fun m hm hlt => ?_, fun hm => ?_, fun m hm hle he => ?_, fun he => ioSrc_of_disabled he x⟩,
    fun m => ⟨fun modes => ?_, fun modes => ?_⟩⟩
  · exact ioSrc_of_not_answersWholeBank ((answersWholeBank_eq hm).trans (decide_eq_false (Nat.not_le.mpr hlt))) x
  · exact ioSrc_of_not_answersWholeBank (by simp only [answersWholeBank, hm]) x
  · exact ioSrc_of_answersWholeBank ((answersWholeBank_eq hm).trans (decide_eq_true hle)) he x
  · obtain ⟨hw, hx⟩ := forcedOutput_of_g1 (modeGroup_of_one_to_three modes)
    exact ⟨portDirection_of_forced hw, portDirection_of_forced hx⟩
  · obtain ⟨hw, hx, hy⟩ := forcedOutput_of_g12 (modeGroup_of_twelve_or_thirteen modes)
    exact ⟨portDirection_of_forced hw, portDirection_of_forced hx, portDirection_of_forced hy⟩

end
end Sys2Proof.Proofs

/-! PROOFS of the family 60_exceptions: the step that executes what the fetch decoded, the halt, the entry of an interrupt, and
what of the environment's inputs an instruction can see. -/

/-! ### The step that executes an instruction -/

namespace Sys2Proof.Proofs

section
open Sys2Proof.Machine

section Fetch
variable {s : State} {w1 : Byte} {i : Instr}
  (hw1 : progWord (bankUpdate s) (romBank (bankUpdate s)) s.pc .fetch1Upper .fetch1Lower = some w1)
include hw1

theorem fetchDecode_of_one (h : decode [w1] = .ok (i, [])) : fetchDecode s = .run i (bankUpdate s) := by
  obtain ⟨hone, -⟩ | ⟨-, w2, hrest, -⟩ := decode_cons_eq_ok.mp h
  · simp [fetchDecode, hw1, hone, FirstWord.twoWords, FirstWord.complete]
  · cases hrest

theorem fetchDecode_of_two {w2 : Byte}
    (hw2 : progWord (bankUpdate (bankUpdate s)) (romBank (bankUpdate (bankUpdate s))) (nextAddr s 1)
      .fetch2Upper .fetch2Lower = some w2)
    (h : decode [w1, w2] = .ok (i, [])) : fetchDecode s = .run i (bankUpdate (bankUpdate s)) := by
  obtain ⟨-, hrest⟩ | ⟨htwo, w2', hrest, hcomplete⟩ := decode_cons_eq_ok.mp h
  · cases hrest
  · obtain rfl : w2 = w2' := List.head_eq_of_cons_eq hrest
    simp only [fetchDecode, hw1, htwo, if_true, hw2, hcomplete]

end Fetch

/-- A fetch that ends in an instruction is the step's, when no interrupt is recognised and the processor is not halted (R281). -/
theorem step_of_fetchDecode_run {s u : State} {i : Instr} (hr : interruptRecognised (environmentMoves s) = false)
    (hh : isHalted (environmentMoves s) = false) (hf : fetchDecode (environmentMoves s) = .run i u) :
    step s = onNext (exec i u) tick := by
  simp [step, beginStep, hr, hh, hf]

/-- Settles O6: a decoded word or pair of words is what the fetch runs, and the step runs what the fetch does. -/
theorem stepRunsDecoded : Obligations.StepRunsDecoded := fun s w1 w2 i hr hh hw1 => by
  have hpc : (environmentMoves s).pc = s.pc := environmentMoves_pc s
  rw [← hpc] at hw1 ⊢
  exact ⟨fun hdecode => step_of_fetchDecode_run hr hh (fetchDecode_of_one hw1 hdecode),
    fun hw2 hdecode => step_of_fetchDecode_run hr hh (fetchDecode_of_two hw1 hw2 hdecode)⟩

end

/-! ### A halted 4040 -/

section
open Sys2Proof.Machine

theorem isHalted_iff {s : State} : isHalted s = true ↔ s.plat.cpu = .c4040 ∧ s.halted = true := by
  simp [isHalted, is4040_iff]

/-- The halt ends without a routine on a request that only IE = 0 keeps from recognition, where the parameter says so (R288). -/
theorem haltEndsQuietly_iff {s : State} : haltEndsQuietly s = true ↔
    s.plat.haltExitWhenDisabled = true ∧ s.ie = false ∧ s.inService = false ∧ intIn s = true := by
  simp [haltEndsQuietly, and_assoc]

/-- Settles O55: a halted step is `haltedStep`, which leaves the halt in the one case that `haltEndsQuietly_iff` lists. -/
theorem haltWaits : Obligations.HaltWaits := by
  rintro s _ rfl h4040 hhalted hr
  rw [step_of_halted hr (isHalted_iff.mpr ⟨h4040, hhalted⟩), haltedStep, ← haltEndsQuietly_iff]
  refine ⟨fun hleaves => ?_, fun hstays => ?_⟩
  · rw [if_pos hleaves]
    rfl
  · rw [if_neg hstays]

end

/-! ### The entry of an interrupt -/

section
open Sys2Proof.Machine

/-- The state in which the interrupt routine begins, the stack after the push being `st` (R286). -/
def afterInterruptEntry (s : State) (st : Stack) : State :=
  { s with
    stack := st
    pc := 0x003#12
    inService := true
    halted := false
    ie := if s.plat.intEntryClearsIe then false else true }

section Entry
variable {s : State}

theorem interruptEntry_of_some {st : Stack} (hie : s.ie = true) (h : pushStack s s.pc = some st) :
    interruptEntry s = .next (afterInterruptEntry s st) := by
  simp only [interruptEntry, h, afterInterruptEntry, ← hie]
  split <;> rfl

theorem interruptEntry_of_none (h : pushStack s s.pc = none) : interruptEntry s = .fault (.stackOverflow s.pc) := by
  simp only [interruptEntry, h]

theorem step_of_interruptEntry_next {t : State} (hr : interruptRecognised (environmentMoves s) = true)
    (h : interruptEntry (environmentMoves s) = .next t) : step s = .next (tick t) := by
  simp only [step, beginStep, hr, if_true, h]

theorem step_of_interruptEntry_fault {r : Fault} (hr : interruptRecognised (environmentMoves s) = true)
    (h : interruptEntry (environmentMoves s) = .fault r) : step s = .fault r := by
  simp only [step, beginStep, hr, if_true, h]

end Entry

/-- Settles O54: the entry is a push of the program counter, onto the list or into the ring, and a full list stops it. -/
theorem interruptIsEntered : Obligations.InterruptIsEntered := by
  rintro s _ rfl h4040 hie hservice hlevel
  have hr := interruptRecognised_iff.mpr ⟨h4040, hie, hservice, hlevel⟩
  rw [← environmentMoves_pc s]
  have entered {st : Stack} (hpush : pushStack (environmentMoves s) (environmentMoves s).pc = some st) :
      step s = .next (tick (afterInterruptEntry (environmentMoves s) st)) :=
    step_of_interruptEntry_next hr (interruptEntry_of_some hie hpush)
  refine ⟨fun hlist hroom => entered (pushStack_of_room hlist hroom _),
    fun hlist hfull => step_of_interruptEntry_fault hr (interruptEntry_of_none (pushStack_of_full hlist hfull _)),
    fun hring hlength hpointer => ⟨_, entered (pushStack_ring hring _), List.getElem?_set_self ?_,
      fun k hk => List.getElem?_set_ne hk.symm, ringNext_eq hpointer, rfl⟩⟩
  exact hlength ▸ Nat.lt_succ_of_le hpointer

end

/-! ### What an instruction sees of the environment's inputs

What the operations read and do does not depend on the inputs `v` that the state holds. -/

section
open Sys2Proof.Machine
variable (s : State) (v : List Inputs)

@[simp] theorem is4040_setInputs : is4040 (s.setInputs v) = is4040 s := rfl

@[simp] theorem romBank_setInputs : romBank (s.setInputs v) = romBank s := rfl

@[simp] theorem reg_setInputs (r : Nibble) : reg (s.setInputs v) r = reg s r := rfl

@[simp] theorem nextAddr_setInputs (n : Nat) : nextAddr (s.setInputs v) n = nextAddr s n := rfl

@[simp] theorem drawNow_setInputs (site : DrawSite) : drawNow (s.setInputs v) site = drawNow s site := rfl

@[simp] theorem pushStack_setInputs (a : Addr) : pushStack (s.setInputs v) a = pushStack s a := rfl

@[simp] theorem popStack_setInputs : popStack (s.setInputs v) = popStack s := rfl

@[simp] theorem ioAt_setInputs (b : BankNo) (high : Bit) : ioAt (s.setInputs v) b high = ioAt s b high := rfl

@[simp] theorem targetOf_setInputs (b : BankNo) (a : Byte) : targetOf (s.setInputs v) b a = targetOf s b a := rfl

@[simp] theorem romPort_setInputs : romPort (s.setInputs v) = romPort s := rfl

@[simp] theorem progWord_setInputs (rb : Bit) (a : Addr) (u l : DrawSite) :
    progWord (s.setInputs v) rb a u l = progWord s rb a u l := rfl

@[simp] theorem progRamWord_setInputs : progRamWord (s.setInputs v) = progRamWord s := rfl

@[simp] theorem setKdAt_setInputs (b : BankNo) (k : Kd4269) : setKdAt (s.setInputs v) b k = (setKdAt s b k).setInputs v := rfl

theorem bankUpdate_setInputs : bankUpdate (s.setInputs v) = (bankUpdate s).setInputs v := by
  simp only [bankUpdate, apply_ite (State.setInputs · v)]
  rfl

/-- The moves on the 4269s, where both inputs make the same (R72). -/
theorem environmentMoves_setInputs (h : (inputNow (s.setInputs v)).moves = (inputNow s).moves) :
    environmentMoves (s.setInputs v) = (environmentMoves s).setInputs v := by
  simp only [environmentMoves, h, State.setInputs_plat, State.setInputs_kd]
  split <;> rfl

theorem sendSrc_setInputs (a : Byte) : sendSrc (s.setInputs v) a = onNext (sendSrc s a) (·.setInputs v) := by
  by_cases h : targetOf s (bankOf s.cr) a = .clash
  · rw [sendSrc_of_clash (s := s.setInputs v) h, sendSrc_of_clash h]
    rfl
  · rw [sendSrc_of_not_clash (s := s.setInputs v) h, sendSrc_of_not_clash h]
    rfl

theorem returnFromInterrupt_setInputs :
    returnFromInterrupt (s.setInputs v) = onNext (returnFromInterrupt s) (·.setInputs v) := by
  simp only [returnFromInterrupt, popStack_setInputs, State.setInputs_srcReg, sendSrc_setInputs]
  split
  · rfl
  · split
    · rfl
    · next r _ => cases sendSrc s r <;> rfl

/-- A write code puts out, and sees no input (R191). -/
theorem ramWrite_setInputs (op : WriteOp) : ramWrite op (s.setInputs v) = onNext (ramWrite op s) (·.setInputs v) := by
  simp only [ramWrite, State.setInputs_cr, State.setInputs_sel, targetOf_setInputs, State.setInputs_plat,
    State.setInputs_clock, State.setInputs_acc, State.setInputs_kd, ioAt_setInputs]
  split
  · rfl
  · split
    · rfl
    · rfl
    · split <;> rfl
    · split <;> rfl
    · rfl

theorem romWrite_setInputs : romWrite (s.setInputs v) = onNext (romWrite s) (·.setInputs v) := by
  have bank := romBank_setInputs s v
  simp only [romWrite, romPort_setInputs, bank, State.setInputs_plat]
  split
  · rfl
  · split <;> rfl

theorem writeProgRam_setInputs (d : Nibble) : writeProgRam (s.setInputs v) d = (writeProgRam s d).setInputs v := by
  simp only [writeProgRam, progRamWord_setInputs]
  split <;> rfl

theorem keepSrc_setInputs (a : Byte) : keepSrc (s.setInputs v) a = (keepSrc s a).setInputs v := by
  rw [keepSrc_eq, keepSrc_eq]
  rfl

end

/-! The operations that see the Test input or the port lines do so where `v` gives those the values they have in `s`; then each
instruction from its operations. -/

section
open Sys2Proof.Machine
variable {s : State} {v : List Inputs}

theorem on4040_setInputs {o o' : Host.Outcome State Fault Refusal} (w : Byte) (h : o' = onNext o (·.setInputs v)) :
    on4040 w (s.setInputs v) o' = onNext (on4040 w s o) (·.setInputs v) := by
  simp only [on4040, is4040_setInputs, h]
  split <;> rfl

theorem onNext_advance_setInputs {o o' : Host.Outcome State Fault Refusal} (n : Nat) (h : o' = onNext o (·.setInputs v)) :
    onNext o' (advance n) = onNext (onNext o (advance n)) (·.setInputs v) := by
  subst h
  cases o <;> rfl

theorem ramRead_setInputs (hport : portIn (s.setInputs v) = portIn s) (op : ReadOp) {f : Nibble → State → State}
    (hf : ∀ m t, f m (t.setInputs v) = (f m t).setInputs v) :
    ramRead op (s.setInputs v) f = onNext (ramRead op s f) (·.setInputs v) := by
  simp only [ramRead, State.setInputs_cr, State.setInputs_sel, targetOf_setInputs, State.setInputs_mem, State.setInputs_kd,
    ioAt_setInputs, drawNow_setInputs, hport, setKdAt_setInputs, hf]
  split
  · rfl
  · split
    · rfl
    · rfl
    · split <;> rfl
    · split <;> rfl
    · rfl

theorem receive_setInputs (op : ReadOp) (m : Nibble) (t : State) :
    receive op m (t.setInputs v) = (receive op m t).setInputs v := by
  cases op <;> rfl

theorem execRead_setInputs (hport : portIn (s.setInputs v) = portIn s) (op : ReadOp) :
    exec op.instr (s.setInputs v) = onNext (exec op.instr s) (·.setInputs v) := by
  rw [exec_readInstr, exec_readInstr]
  exact ramRead_setInputs hport op (receive_setInputs op)

theorem romRead_setInputs (hport : portIn (s.setInputs v) = portIn s) :
    romRead (s.setInputs v) = onNext (romRead s) (·.setInputs v) := by
  simp only [romRead, romPort_setInputs, romBank_setInputs, State.setInputs_plat, hport, drawNow_setInputs]
  split <;> rfl

theorem execJcn_setInputs (htest : testIn (s.setInputs v) = testIn s) (c : Nibble) (a : Byte) :
    execJcn c a (s.setInputs v) = onNext (execJcn c a s) (·.setInputs v) := by
  have taken : jcnTaken c (s.setInputs v) = jcnTaken c s := by
    simp only [jcnTaken, htest, State.setInputs_acc, State.setInputs_cy]
  simp only [execJcn, taken]
  split <;> rfl

theorem execIsz_setInputs (r : Nibble) (a : Byte) :
    execIsz r a (s.setInputs v) = onNext (execIsz r a s) (·.setInputs v) := by
  have register := reg_setInputs s v r
  simp only [execIsz, register]
  split <;> rfl

theorem execFin_setInputs (p : PairNo) : execFin p (s.setInputs v) = onNext (execFin p s) (·.setInputs v) := by
  simp only [execFin, progWord_setInputs, romBank_setInputs, shortTarget, nextAddr_setInputs, pair, reg_setInputs]
  split <;> rfl

theorem execJms_setInputs (a : Addr) : execJms a (s.setInputs v) = onNext (execJms a s) (·.setInputs v) := by
  simp only [execJms, pushStack_setInputs, nextAddr_setInputs]
  split <;> rfl

theorem execBbl_setInputs (d : Nibble) : execBbl d (s.setInputs v) = onNext (execBbl d s) (·.setInputs v) := by
  simp only [execBbl, popStack_setInputs]
  split <;> rfl

theorem execSrc_setInputs (p : PairNo) : execSrc p (s.setInputs v) = onNext (execSrc p s) (·.setInputs v) := by
  refine onNext_advance_setInputs 1 ?_
  rw [keepSrc_setInputs, sendSrc_setInputs]
  rfl

theorem execWpm_setInputs : execWpm (s.setInputs v) = onNext (execWpm s) (·.setInputs v) := by
  simp only [execWpm, writeProgRam_setInputs]
  rfl

/-- Of the environment's inputs an instruction sees the Test input and the lines of a port, and nothing else: two inputs that
agree on these give the same outcome (R74). -/
theorem exec_setInputs (htest : testIn (s.setInputs v) = testIn s) (hport : portIn (s.setInputs v) = portIn s) (i : Instr) :
    exec i (s.setInputs v) = onNext (exec i s) (·.setInputs v) := by
  cases i with
  | nop | fim | jin | jun | inc | add | sub | ld | xch | ldm => rfl
  | clb | clc | iac | cmc | cma | ral | rar | tcc | dac | tcs | stc | daa | kbp | dcl => rfl
  | jcn c a => exact execJcn_setInputs htest c a
  | fin p => exact execFin_setInputs p
  | isz r a => exact execIsz_setInputs r a
  | jms a => exact execJms_setInputs a
  | bbl d => exact execBbl_setInputs d
  | hlt | lcr | or4 | or5 | an6 | an7 | db0 | db1 | sb0 | sb1 | ein | din | rpm => exact on4040_setInputs _ rfl
  | bbs => exact on4040_setInputs _ (returnFromInterrupt_setInputs s v)
  | src p => exact execSrc_setInputs p
  | wrm | wmp | wr0 | wr1 | wr2 | wr3 => exact onNext_advance_setInputs 1 (ramWrite_setInputs s v _)
  | wrr => exact onNext_advance_setInputs 1 (romWrite_setInputs s v)
  | wpm => exact execWpm_setInputs
  | sbm => exact execRead_setInputs hport .sbm
  | rdm => exact execRead_setInputs hport .rdm
  | adm => exact execRead_setInputs hport .adm
  | rd0 => exact execRead_setInputs hport .rd0
  | rd1 => exact execRead_setInputs hport .rd1
  | rd2 => exact execRead_setInputs hport .rd2
  | rd3 => exact execRead_setInputs hport .rd3
  | rdr => exact onNext_advance_setInputs 1 (romRead_setInputs hport)

end

/-! ### The request input -/

section
open Sys2Proof.Machine

/-- What a step comes to, its state changed by `f`. -/
def mapBegun (f : State → State) : Begun → Begun
  | .quiet t => .quiet (f t)
  | .run i t => .run i (f t)
  | .fault r => .fault r

theorem fetchDecode_setInputs (s : State) (v : List Inputs) :
    fetchDecode (s.setInputs v) = mapBegun (·.setInputs v) (fetchDecode s) := by
  simp only [fetchDecode, bankUpdate_setInputs, progWord_setInputs, romBank_setInputs, nextAddr_setInputs,
    State.setInputs_pc]
  split
  · rfl
  · split
    · split
      · rfl
      · split <;> rfl
    · split <;> rfl

/-- A 4004 begins every step with the fetch: it has no interrupt and no halt (D36). -/
theorem beginStep_of_c4004 {s : State} (h : s.plat.cpu = .c4004) : beginStep s = fetchDecode (environmentMoves s) := by
  simp [beginStep, interruptRecognised, isHalted, is4040, h]

/-- What the environment supplies in one step, but for the interrupt request level (R74). -/
structure SameButLevel (x y : Inputs) : Prop where
  test : y.test = x.test
  port : y.port = x.port
  moves : y.moves = x.moves

section Level
variable {s : State} {x y : Inputs} {rest : List Inputs}

/-- An instruction and the end of the step, under inputs that differ in the request level alone. -/
theorem onNext_exec_tick_setInputs (hs : s.inputs = x :: rest) (h : SameButLevel x y) (i : Instr) :
    onNext (exec i (s.setInputs (y :: rest))) tick = onNext (exec i s) tick := by
  have test : testIn (s.setInputs (y :: rest)) = testIn s := by simp only [testIn, inputNow, State.setInputs_inputs, hs, h.test]
  have port : portIn (s.setInputs (y :: rest)) = portIn s := by simp only [portIn, inputNow, State.setInputs_inputs, hs, h.port]
  rw [exec_setInputs test port]
  cases hexec : exec i s with
  | next t =>
    obtain ⟨-, -, hinputs, -⟩ := not_mem_mayChange i
    have kept : t.inputs = s.inputs := (exec_changesOnly i s).changesOnly hexec .inputs hinputs
    simp only [onNext, tick, State.setInputs_inputs, kept, hs, List.tail_cons]
    rfl
  | fault | refused => rfl

/-- On a 4004 the request level of a step's inputs cannot change the step (D36). -/
theorem step_setInputs_of_c4004 (h4004 : s.plat.cpu = .c4004) (hs : s.inputs = x :: rest) (h : SameButLevel x y) :
    step (s.setInputs (y :: rest)) = step s := by
  have moves : environmentMoves (s.setInputs (y :: rest)) = (environmentMoves s).setInputs (y :: rest) :=
    environmentMoves_setInputs s _ (by simp only [inputNow, State.setInputs_inputs, hs, h.moves])
  simp only [step, beginStep_of_c4004 (s := s.setInputs (y :: rest)) h4004, moves, fetchDecode_setInputs,
    ← beginStep_of_c4004 h4004]
  cases hbegin : beginStep s with
  | quiet t => exact absurd ((beginStep_of_c4004 h4004).symm.trans hbegin) (fetchDecode_ne_quiet _ t)
  | fault => rfl
  | run i t =>
    have kept : t.inputs = s.inputs := beginStep_run_changesOnly hbegin .inputs (by simp [mayChangeBefore])
    exact onNext_exec_tick_setInputs (kept.trans hs) h i

end Level

theorem intIn_of_wired {s : State} {b : BankNo} (hwire : s.plat.intWiring = some b)
    (hdevice : (look (w := 3) s.plat.banks b).chip1 = .dev4269) : intIn s = (look (w := 3) s.kd b).intLine := by
  simp only [intIn, hwire, hdevice]

theorem intIn_of_unwired {s : State} (h : s.plat.intWiring = none) : intIn s = (inputNow s).int := by
  simp only [intIn, h]

/-- Settles O57: each of the four conditions contradicts a recognised request; on a 4004 nothing else looks at the level. -/
theorem noRecognition : Obligations.NoRecognition := by
  refine ⟨fun s => ⟨fun hnot => Bool.eq_false_iff.mpr fun hr => ?_, fun b => intIn_of_wired, intIn_of_unwired⟩,
    fun s x level rest h4004 => step_setInputs_of_c4004 (s := { s with inputs := x :: rest })
      (y := { x with int := level }) h4004 rfl ⟨rfl, rfl, rfl⟩⟩
  obtain ⟨h4040, hie, hservice, hlevel⟩ := interruptRecognised_iff.mp hr
  simp [h4040, hie, hservice, hlevel] at hnot

end
end Sys2Proof.Proofs
